-- ==== Sys2Proof/Word.lean ====
section
/-! DEFINITION. Words and the small vocabularies the other files share: bytes, the sixteen-bit registers, the error names,
operation results, timeout forms. Nothing here computes. -/

namespace Sys2Proof

/-- A byte, an unsigned integer 0..255 (R10). -/
abbrev Byte := BitVec 8

/-- A sixteen-bit register: timeouts, budgets and attempt counters (R22, R26). -/
abbrev Word16 := BitVec 16

/-- The eleven error names (R280). The block produces the first nine; the last two belong to the Command Layer. -/
inductive Err
  | payloadTooLarge | badPreamble | checksumMismatch | truncated | opcodeMismatch
  | nakReceived | ackTimeout | responseTimeout | busFault
  | targetNotFound | chipNotResponding
deriving DecidableEq, Repr

/-- What a pure operation returns: `ok(value)` or `err(E)` (R13). -/
inductive Result (α : Type)
  | ok (value : α)
  | err (e : Err)
deriving DecidableEq, Repr

/-- TMODE: which form of timeout the caller supplied (R22). -/
inductive TMode
  | single | dual
deriving DecidableEq, Repr

/-- A timeout as the written form of R108 gives it: `single(T)` or `dual(Ta, Tr)`. -/
inductive Timeout
  | single (t : Word16)
  | dual (ack resp : Word16)
deriving DecidableEq, Repr

/-- The four communication modes of SAMConfiguration (R264); their byte values are parameters. -/
inductive SamMode
  | normal | virtualCard | wiredCard | dualCard
deriving DecidableEq, Repr

/-- Where bytes to be decoded come from: the operation port (R104), or the serial link in one of its two directions
(R95, R100). -/
inductive Source
  | hostPort | toChip | toHost
deriving DecidableEq, Repr

/-- Why the decoder rejects bytes. -/
inductive DecodeError
  /-- No byte at the operation port. -/
  | noBytes
  /-- A command byte that selects no operation (R104). -/
  | reservedSelector
  /-- A frame that DECODE rejects, with DECODE's error (R136). -/
  | frame (e : Err)
deriving DecidableEq, Repr

end Sys2Proof
end

