-- ==== Sys2Proof/Config.lean ====
section
/-! DEFINITION. What is fixed at construction of a block instance, the Command Layer's constants, and the free values: what
the environment answers where nothing in the state says it. -/

namespace Sys2Proof

/-- The five parameters of R8, with their widths (R32) and legal ranges. The proof fields make a value outside its range
unrepresentable (R32, U11). -/
structure Config where
  /-- POLL_INTERVAL_MS, the fixed inter-poll delay. -/
  intervalMs : Word16
  /-- MAX_ATTEMPTS, the bound on ready samples in one polling phase. -/
  maxAttempts : Word16
  /-- RX_COUNT, the number of bytes exchanged when the response is read. -/
  rxCount : BitVec 9
  /-- TX_FILL, the byte sent while reading. -/
  txFill : Byte
  /-- WAKE_SEQ, the wake-up byte sequence; WAKE_LEN is its length. -/
  wakeSeq : List Byte
  interval_pos : 0 < intervalMs.toNat
  attempts_pos : 0 < maxAttempts.toNat
  rxCount_legal : 8 ≤ rxCount.toNat ∧ rxCount.toNat ≤ 262
  wakeSeq_legal : 1 ≤ wakeSeq.length ∧ wakeSeq.length ≤ 255
deriving DecidableEq, Repr

/-- The suggested defaults of R8. DESIGN CHOICE of the spec (D18, D19, D22, D23), log entry 7; unsafe to rely on. -/
def Config.suggested : Config where
  intervalMs := 10
  maxAttempts := 65535
  rxCount := 262
  txFill := 0
  wakeSeq := [0]
  interval_pos := by decide
  attempts_pos := by decide
  rxCount_legal := by decide
  wakeSeq_legal := by decide

/-- Construction with given values: refused (no instance) outside the legal ranges (R8, R32, U11). -/
def Config.construct (intervalMs maxAttempts : Word16) (rxCount : BitVec 9) (txFill : Byte) (wakeSeq : List Byte) :
    Option Config :=
  if h : (0 < intervalMs.toNat ∧ 0 < maxAttempts.toNat) ∧ (8 ≤ rxCount.toNat ∧ rxCount.toNat ≤ 262) ∧
      (1 ≤ wakeSeq.length ∧ wakeSeq.length ≤ 255) then
    some ⟨intervalMs, maxAttempts, rxCount, txFill, wakeSeq, h.1.1, h.1.2, h.2.1, h.2.2⟩
  else none

/-- The Command Layer's named parameters (R262, R264, R265, R267, R268): host software's constants, no state of the block. -/
structure CommandParams where
  /-- OP_GETFIRMWAREVERSION. -/
  opGetFirmwareVersion : Byte
  /-- OP_SAMCONFIGURATION. -/
  opSamConfiguration : Byte
  /-- OP_INLISTPASSIVETARGET. -/
  opInListPassiveTarget : Byte
  /-- OP_INDATAEXCHANGE. -/
  opInDataExchange : Byte
  /-- SAM_NORMAL. -/
  samNormal : Byte
  /-- SAM_VIRTUAL. -/
  samVirtual : Byte
  /-- SAM_WIRED. -/
  samWired : Byte
  /-- SAM_DUAL. -/
  samDual : Byte
  /-- The target-count that means "not found" (R267, U6, D34). -/
  notFoundCount : Byte
deriving DecidableEq, Repr

/-- The values beside the parameters in 44_command_layer.md. PRESUMED (GK2 to GK8, general knowledge of the chip) and D34
for the indicator, log entries 17 and 18; unsafe to rely on. -/
def CommandParams.common : CommandParams where
  opGetFirmwareVersion := 0x02
  opSamConfiguration := 0x14
  opInListPassiveTarget := 0x4A
  opInDataExchange := 0x40
  samNormal := 0x01
  samVirtual := 0x02
  samWired := 0x03
  samDual := 0x04
  notFoundCount := 0x00

/-- Free value: whether the environment faults at the n-th primitive call, where no script entry says (R65, R81; log
entry 1). -/
opaque Config.envFault : Nat → Bool

/-- Free value: the ready level at the n-th primitive call, where no script entry says (R63, R81; log entry 1). -/
opaque Config.envLevel : Nat → Bool

/-- Free value: byte i received in the n-th primitive call, where no script entry gives that byte (R61, U10; log entries
1 and 2). -/
opaque Config.envByte : Nat → Nat → Byte

/-- Free value: the level of SEL after the n-th primitive call, a Select that faulted (R331, U8; log entry 3). -/
opaque Config.freeSel : Nat → Bool

end Sys2Proof
end

