-- ==== Sys2Proof/Syntax.lean ====
section
/-! DEFINITION. The instruction set: one constructor per row of spec/opcode_table.json (R2, R107). Operands that the rows
keep in registers (R105) are no arguments; the others are. -/

namespace Sys2Proof

/-- The 26 rows of the opcode table. -/
inductive Instr
  -- host operations (R104, R105)
  | encode
  | decode
  | request
  | wake
  -- internal operations: no selector, started by the engine alone (R105)
  | lcs (len : Byte)
  | dcs (tfi : Byte) (payload : List Byte)
  | ackmatch
  | expect
  | correlate (tfi : Byte) (payload : List Byte)
  | limit (budget : Word16)
  | split
  | poll
  | wakeStep
  | sendframe
  | readack
  | readresp
  -- wire rows (R90, R93, R94, R98, R101)
  | ack
  | nak
  | info (tfi : Byte) (payload : List Byte)
  | infoCmd (opcode : Byte) (args : List Byte)
  | infoRsp (tag : Byte) (data : List Byte)
  | wakeup
  -- Command Layer pseudo-operations (R109, R260)
  | getFirmwareVersion (tm : Timeout)
  | samConfiguration (mode : SamMode) (timeoutByte : Byte) (irq : Bool) (tm : Timeout)
  | readPassiveTarget (profile : Byte) (tm : Timeout)
  | inDataExchange (args : List Byte) (tm : Timeout)
deriving DecidableEq, Repr

end Sys2Proof
end

