-- ==== Sys2Proof/WellFormed.lean ====
section
/-! DEFINITION. When an instruction term stands for something the encodings and the registers can carry. -/

namespace Sys2Proof

/-- The length bounds of the spec: a frame payload has at most 254 bytes (R9, R96, R132), so command arguments and response
data have at most 253 (R98); ARGS holds at most 255 (R22, R23: 254 and 255 are representable and fail with
PayloadTooLarge). -/
def WellFormed : Instr → Bool
  | .encode => true
  | .decode => true
  | .request => true
  | .wake => true
  | .lcs _ => true
  | .dcs _ payload => payload.length ≤ 254
  | .ackmatch => true
  | .expect => true
  | .correlate _ payload => payload.length ≤ 254
  | .limit _ => true
  | .split => true
  | .poll => true
  | .wakeStep => true
  | .sendframe => true
  | .readack => true
  | .readresp => true
  | .ack => true
  | .nak => true
  | .info _ payload => payload.length ≤ 254
  | .infoCmd _ args => args.length ≤ 253
  | .infoRsp _ data => data.length ≤ 253
  | .wakeup => true
  | .getFirmwareVersion _ => true
  | .samConfiguration _ _ _ _ => true
  | .readPassiveTarget _ _ => true
  | .inDataExchange args _ => args.length ≤ 255

end Sys2Proof
end

