-- ==== Sys2Proof/Decode.lean ====
section
/-! DEFINITION. The encodings: checksums, the Frame Codec's two functions, the decoder (total on any bytes, rejecting by
name) and after it the encoder. -/

namespace Sys2Proof

/-! ### Checksums (40_frame_codec.md sections 1 to 3) -/

/-- The 8-bit two's complement of a byte (R11). -/
def neg8 (b : Byte) : Byte := -b

/-- The sum of a byte sequence in an 8-bit accumulator that discards carries (R11, R130). -/
def byteSum : List Byte → Byte
  | [] => 0
  | b :: bs => b + byteSum bs

/-- The length checksum (R131). -/
def lcs (len : Byte) : Byte := neg8 len

/-- The validity test of a length and its checksum (R131). -/
def lcsOk (len l : Byte) : Bool := len + l == 0

/-- The data checksum of a direction byte and a payload (R132). -/
def dcs (tfi : Byte) (payload : List Byte) : Byte := neg8 (tfi + byteSum payload)

/-- The validity test of received data (TFI and payload) and its checksum byte (R132). -/
def dcsOk (data : List Byte) (c : Byte) : Bool := byteSum data + c == 0

/-! ### Wire constants (R92 to R95) -/

/-- Preamble and start code (R92). -/
def preamble : List Byte := [0x00, 0x00, 0xFF]

/-- The ACK frame (R93). -/
def ackFrame : List Byte := [0x00, 0x00, 0xFF, 0x00, 0xFF, 0x00]

/-- The NAK frame (R94). -/
def nakFrame : List Byte := [0x00, 0x00, 0xFF, 0xFF, 0x00, 0x00]

/-- The direction byte host to chip (R95). -/
def tfiToChip : Byte := 0xD4

/-- The direction byte chip to host (R95). -/
def tfiToHost : Byte := 0xD5

/-- The subsequence `s[i..j)` (R11). -/
def slice (s : List Byte) (i j : Nat) : List Byte := (s.take j).drop i

/-! ### The Frame Codec -/

/-- ENCODE(tfi, P) (R133, R134): the frame of R90, or PayloadTooLarge. -/
def encodeFrame (tfi : Byte) (payload : List Byte) : Result (List Byte) :=
  if 254 < payload.length then .err .payloadTooLarge
  else
    .ok (preamble ++ [BitVec.ofNat 8 (payload.length + 1), lcs (BitVec.ofNat 8 (payload.length + 1)), tfi] ++
      payload ++ [dcs tfi payload, 0x00])

/-- DECODE(raw) (R136): the seven steps in the rule's order. The defaults of `getD` are never read: each index lies below
the length the step before has checked. -/
def decodeFrame (raw : List Byte) : Result (Byte × List Byte) :=
  if raw.length < 3 ∨ slice raw 0 3 ≠ preamble then .err .badPreamble
  else if raw.length < 5 then .err .truncated
  else if lcsOk (raw.getD 3 0) (raw.getD 4 0) = false then .err .checksumMismatch
  else if raw.getD 3 0 = 0 then .err .truncated
  else if raw.length < (raw.getD 3 0).toNat + 7 then .err .truncated
  else if dcsOk (slice raw 5 (5 + (raw.getD 3 0).toNat)) (raw.getD (5 + (raw.getD 3 0).toNat) 0) = false then
    .err .checksumMismatch
  else .ok (raw.getD 5 0, slice raw 6 (5 + (raw.getD 3 0).toNat))

/-! ### The decoder -/

/-- What the decoder answers: an instruction and the bytes after it, or a rejection by name. -/
inductive Decoded
  | ok (i : Instr) (rest : List Byte)
  | rejected (e : DecodeError)
deriving DecidableEq, Repr

/-- The selector HOP with bits [7:3] zero (R104): 1 ENCODE, 2 DECODE, 3 REQUEST, 4 WAKE, every other byte selects
nothing. -/
def decodeSelector (b : Byte) : Option Instr :=
  if b = 0x01 then some .encode
  else if b = 0x02 then some .decode
  else if b = 0x03 then some .request
  else if b = 0x04 then some .wake
  else none

/-- The row of a frame that travels from host to chip: INFO.CMD where the direction byte is 0xD4 and an opcode is present
(R98, R107), else INFO. -/
def sentFrame (tfi : Byte) (payload : List Byte) : Instr :=
  match payload with
  | op :: args => if tfi = tfiToChip then .infoCmd op args else .info tfi (op :: args)
  | [] => .info tfi []

/-- The row of a frame that travels from chip to host: INFO.RSP where the direction byte is 0xD5 and a tag is present
(R98, R107), else INFO. -/
def receivedFrame (tfi : Byte) (payload : List Byte) : Instr :=
  match payload with
  | tag :: data => if tfi = tfiToHost then .infoRsp tag data else .info tfi (tag :: data)
  | [] => .info tfi []

/-- The decoder. At the operation port one byte is a selector (R104). From the chip the ACK and NAK constants are
recognised (R93, R94; by R99 neither is a frame), else DECODE decides (R136); toward the chip only information frames
travel (R102 (g)). -/
def decode (src : Source) (bytes : List Byte) : Decoded :=
  match src with
  | .hostPort =>
    match bytes with
    | [] => .rejected .noBytes
    | b :: rest =>
      match decodeSelector b with
      | some i => .ok i rest
      | none => .rejected .reservedSelector
  | .toChip =>
    match decodeFrame bytes with
    | .ok (tfi, payload) => .ok (sentFrame tfi payload) (bytes.drop (payload.length + 8))
    | .err e => .rejected (.frame e)
  | .toHost =>
    if bytes.take 6 = ackFrame then .ok .ack (bytes.drop 6)
    else if bytes.take 6 = nakFrame then .ok .nak (bytes.drop 6)
    else
      match decodeFrame bytes with
      | .ok (tfi, payload) => .ok (receivedFrame tfi payload) (bytes.drop (payload.length + 8))
      | .err e => .rejected (.frame e)

/-! ### The encoder -/

/-- The frame ENCODE builds, where there is one. -/
def frameOf (tfi : Byte) (payload : List Byte) : Option (List Byte) :=
  match encodeFrame tfi payload with
  | .ok f => some f
  | .err _ => none

/-- The bytes of an instruction (R90, R93, R94, R98, R104). Internal and pseudo-operations have none (R105, R107), and the
wake-up sequence is a parameter, no fixed encoding (R101). -/
def encode : Instr → Option (List Byte)
  | .encode => some [0x01]
  | .decode => some [0x02]
  | .request => some [0x03]
  | .wake => some [0x04]
  | .lcs _ => none
  | .dcs _ _ => none
  | .ackmatch => none
  | .expect => none
  | .correlate _ _ => none
  | .limit _ => none
  | .split => none
  | .poll => none
  | .wakeStep => none
  | .sendframe => none
  | .readack => none
  | .readresp => none
  | .ack => some ackFrame
  | .nak => some nakFrame
  | .info tfi payload => frameOf tfi payload
  | .infoCmd op args => frameOf tfiToChip (op :: args)
  | .infoRsp tag data => frameOf tfiToHost (tag :: data)
  | .wakeup => none
  | .getFirmwareVersion _ => none
  | .samConfiguration _ _ _ _ => none
  | .readPassiveTarget _ _ => none
  | .inDataExchange _ _ => none

/-- Where an instruction's bytes stand. An INFO frame that carries the direction byte 0xD5 is told from INFO.RSP by
travelling toward the chip, any other from INFO.CMD by travelling toward the host (log entry 15). -/
def encodingSource : Instr → Source
  | .infoCmd _ _ => .toChip
  | .infoRsp _ _ => .toHost
  | .info tfi _ => if tfi = tfiToHost then .toChip else .toHost
  | .ack => .toHost
  | .nak => .toHost
  | .encode => .hostPort
  | .decode => .hostPort
  | .request => .hostPort
  | .wake => .hostPort
  | .lcs _ => .hostPort
  | .dcs _ _ => .hostPort
  | .ackmatch => .hostPort
  | .expect => .hostPort
  | .correlate _ _ => .hostPort
  | .limit _ => .hostPort
  | .split => .hostPort
  | .poll => .hostPort
  | .wakeStep => .hostPort
  | .sendframe => .hostPort
  | .readack => .hostPort
  | .readresp => .hostPort
  | .wakeup => .hostPort
  | .getFirmwareVersion _ => .hostPort
  | .samConfiguration _ _ _ _ => .hostPort
  | .readPassiveTarget _ _ => .hostPort
  | .inDataExchange _ _ => .hostPort

/-! ### Table words: the bytes of an encoding as one number (log entry 28) -/

/-- The bytes of a word in stream order: byte i is bits 8i+7 .. 8i, and every bit at or above nbits is 0. DESIGN CHOICE, log
entry 28: R107 gives the match of a wire row as a string, byte 0 leftmost, and numbers no bits of it. A word of at most
eight bits is one command byte; a longer one is laid out to the longest frame, 262 bytes (R96). -/
def tableBytes (nbits w : Nat) : List Byte :=
  (List.range (if nbits ≤ 8 then 1 else 262)).map fun i => BitVec.ofNat 8 ((w % 2 ^ nbits) / 256 ^ i)

/-- Which stream a table word belongs to: the operation port for one byte, else the link, in the direction its TFI byte
(offset 5, R90) names (log entry 15). -/
def tableSource (nbits : Nat) (bytes : List Byte) : Source :=
  if nbits ≤ 8 then .hostPort
  else if bytes.getD 5 0 = tfiToChip then .toChip
  else .toHost

/-- The instruction the decoder reads from a table word. -/
def decodeTableWord (nbits w : Nat) : Option Instr :=
  match decode (tableSource nbits (tableBytes nbits w)) (tableBytes nbits w) with
  | .ok i _ => some i
  | .rejected _ => none

end Sys2Proof
end

