-- ==== Sys2Proof/Machine/State.lean ====
section
/-! DEFINITION. The state of the block as plain data, the state of its surroundings that the rules name, and the machine
right after reset. -/

namespace Sys2Proof.Machine

/-- PHASE, the state of the per-request state machine (R25). The code 7 is unrepresentable. -/
inductive Phase
  | idle | wokenUp | frameSent | awaitingAck | awaitingResponse | done | failed
deriving DecidableEq, Repr

/-- STATUS, the outcome of the last completed operation (R30, R106). The codes 13 to 15 are unrepresentable. -/
inductive Status
  | none
  | ok
  | error (e : Err)
deriving DecidableEq, Repr

/-- What ACKMATCH returns (R170). -/
inductive AckClass
  | ack | nak | neither
deriving DecidableEq, Repr

/-- What POLL returns (R193). -/
inductive PollResult
  | isReady | timedOut
deriving DecidableEq, Repr

/-- What an internal operation or a Command Layer operation returned to its caller (R13, R262 to R268). The model's own
field, no register (log entry 8). -/
inductive Ret
  | none
  /-- LCS, DCS, EXPECT. -/
  | byte (b : Byte)
  /-- ACKMATCH. -/
  | ackClass (c : AckClass)
  /-- POLL. -/
  | poll (r : PollResult)
  /-- CORRELATE, InDataExchange: `ok(data)`. -/
  | data (d : List Byte)
  /-- `err(E)`. -/
  | error (e : Err)
  /-- GetFirmwareVersion: the four fields (R263). -/
  | firmware (ic version revision support : Byte)
  /-- SAMConfiguration: `ok(())`. -/
  | unit
  /-- ReadPassiveTarget: the UID. -/
  | uid (u : List Byte)
  /-- ReadPassiveTarget: TargetNotFound, not an error (R267, R290). -/
  | targetNotFound
  /-- GetFirmwareVersion: ChipNotResponding with the engine's error as its cause (R262, R291). -/
  | chipNotResponding (cause : Err)
deriving DecidableEq, Repr

/-- One primitive call with its operand and answer (R60, R81). -/
inductive Event
  /-- `Select(active)`; `returned` is false when it faulted. -/
  | select (active : Bool) (returned : Bool)
  /-- `Exchange(tx)`; no received bytes when it faulted. -/
  | exchange (tx : List Byte) (rx : Option (List Byte))
  /-- `Ready()`; no level when it faulted. -/
  | ready (level : Option Bool)
  /-- `Sleep(ms)`; `returned` is false when it faulted. -/
  | sleep (ms : Nat) (returned : Bool)
deriving DecidableEq, Repr

/-- One answer of the environment: a fault, or what the called primitive needs of the rest (R61 to R65, R81). -/
structure Answer where
  fault : Bool
  level : Bool
  rx : List Byte
deriving DecidableEq, Repr

/-- What the rules name outside the block (R34), and the environment as data (R81). -/
structure Link where
  /-- SEL, true when asserted (R34 (a)). -/
  sel : Bool
  /-- ELAPSED_MS, the virtual clock (R34 (c)). -/
  elapsedMs : Nat
  /-- The answers the environment has fixed, consumed in order (R81). -/
  script : List Answer
  /-- How many primitives have been issued; it indexes the free values. -/
  calls : Nat
  /-- The transport trace, oldest first (R81). -/
  trace : List Event
deriving DecidableEq, Repr

/-- A write of one operand register by the host (R105). -/
inductive HostWrite
  | opcode (b : Byte)
  | args (bs : List Byte)
  | tmode (m : TMode)
  | t1 (t : Word16)
  | t2 (t : Word16)
  | cinTfi (b : Byte)
  | cin (bs : List Byte)
  | din (bs : List Byte)
deriving DecidableEq, Repr

/-- A move of the host: an operand write, a command byte at the operation port (R103, R104), or a call of a Command Layer
operation (R109). -/
inductive HostMove
  | write (w : HostWrite)
  | command (b : Byte)
  | call (op : Instr)
deriving DecidableEq, Repr

/-- Which operand registers the host has written since reset (R37, R322 (4)). -/
structure Written where
  opcode : Bool
  args : Bool
  tmode : Bool
  t1 : Bool
  t2 : Bool
  cinTfi : Bool
  cin : Bool
  din : Bool
deriving DecidableEq, Repr

/-- Everything the spec gives the machine. A byte list stands for a buffer and its length register together (R22; log
entry 14). -/
structure State where
  /-- The configuration registers (R32). -/
  cfg : Config
  -- request registers (R22)
  opcode : Byte
  args : List Byte
  tmode : TMode
  t1 : Word16
  t2 : Word16
  tack : Word16
  tresp : Word16
  txbuf : List Byte
  ackbuf : List Byte
  rxbuf : List Byte
  -- operands of the stand-alone codec operations (R22)
  cinTfi : Byte
  cin : List Byte
  din : List Byte
  -- sequencer and flag (R25 to R27)
  phase : Phase
  pollcnt : Word16
  polllim : Word16
  awake : Bool
  -- result registers (R30)
  status : Status
  rtfi : Byte
  rdata : List Byte
  /-- SEL, the virtual clock, the trace and the environment's answers. -/
  link : Link
  /-- The host's next moves. -/
  hostq : List HostMove
  /-- Which operand registers the host has written. -/
  written : Written
  /-- The Command Layer's constants. -/
  layer : CommandParams
  /-- The value last returned to a caller. -/
  ret : Ret
deriving DecidableEq, Repr

/-- Why the machine stops with a fault: never. Every error of the spec is a typed outcome the machine goes on from (R280,
R292, R294, R296), and every register holds a value at reset, so no rule of the spec stops it. -/
inductive Fault
deriving DecidableEq, Repr

/-- Why the machine has no step. -/
inductive Refusal
  /-- Raised by exec's arm of an instruction that has no meaning yet; safe. No arm raises it now. -/
  | notModelled (mnemonic : String)
  /-- Raised by the operation port for a command byte that selects no operation: "the block does nothing, no register
  changes, and a model should refuse them (no step)" (R104, U4); safe. -/
  | reservedSelector
  /-- Raised by REQUEST, WAKE and the Command Layer operations, which run REQUEST, when PHASE is not Idle: the host has no
  move there and a model refuses the operation (R28, R328, U1); safe. -/
  | busy
  /-- Raised by the host port for a host call of a row that is no Command Layer operation: "the host cannot start them
  alone" (R105); safe. -/
  | notAHostCall
deriving DecidableEq, Repr

/-- The result of an engine computation: a value, or `fail E`, with the state reached (R12). -/
inductive Run (α : Type)
  | ok (value : α) (s : State)
  | err (e : Err) (s : State)

/-- The operand marks of a host that has written nothing. -/
def Written.none : Written := ⟨false, false, false, false, false, false, false, false⟩

/-- The link after reset: no primitive has been issued (R36). SEL is deasserted by the host's duty R322 (2), log entry 4. -/
def Link.reset : Link where
  sel := false
  elapsedMs := 0
  script := []
  calls := 0
  trace := []

/-- The machine right after reset, which is the construction of a block instance with a legal configuration (R36, R320).
The spec gives PHASE, AWAKE, STATUS, RLEN, POLLCNT and POLLLIM; the registers R36 calls unspecified hold zero or nothing
(DESIGN CHOICE, unsafe, log entry 5). -/
def State.construct (c : Config) : State where
  cfg := c
  opcode := 0
  args := []
  tmode := .single
  t1 := 0
  t2 := 0
  tack := 0
  tresp := 0
  txbuf := []
  ackbuf := [0, 0, 0, 0, 0, 0]
  rxbuf := []
  cinTfi := 0
  cin := []
  din := []
  phase := .idle
  pollcnt := 0
  polllim := 0
  awake := false
  status := .none
  rtfi := 0
  rdata := []
  link := Link.reset
  hostq := []
  written := Written.none
  layer := CommandParams.common
  ret := .none

/-- Reset with the suggested configuration of R8 (DESIGN CHOICE, log entry 7). -/
def State.reset : State := State.construct Config.suggested

end Sys2Proof.Machine
end

