-- ==== Sys2Proof/Machine/Ops.lean ====
section
/-! DEFINITION. The shared operations: the four transport primitives, the sequencing of engine computations, the select
bracket, and the failure entry with the return to Idle beside it. -/

namespace Sys2Proof.Machine

/-! ### The environment's answers (R81) -/

/-- The answer to the next primitive call: the head of the script, or free values where the script is used up. -/
def Link.answer (l : Link) : Answer :=
  match l.script with
  | a :: _ => a
  | [] => ⟨Config.envFault l.calls, Config.envLevel l.calls, []⟩

/-- n received bytes in the k-th primitive call: those given, with free bytes for those that are not (R61; log entry 2). -/
def padReceived (k n : Nat) (rx : List Byte) : List Byte :=
  rx.take n ++ (List.range (n - rx.length)).map fun i => Config.envByte k (rx.length + i)

/-- The n bytes an Exchange of n bytes receives (R61). -/
def Link.received (l : Link) (n : Nat) : List Byte := padReceived l.calls n l.answer.rx

/-- The link after a call: its answer consumed, the call recorded. -/
def Link.record (l : Link) (e : Event) : Link :=
  { l with script := l.script.tail, calls := l.calls + 1, trace := l.trace ++ [e] }

/-! ### The four primitives (R60 to R65); `none` is a fault -/

/-- Select(b) (R62). After a fault the level of SEL is unknown: a free value (R331). -/
def Link.select (active : Bool) (l : Link) : Option Unit × Link :=
  if l.answer.fault then (none, { l.record (.select active false) with sel := Config.freeSel l.calls })
  else (some (), { l.record (.select active true) with sel := active })

/-- Exchange(s) (R61). -/
def Link.exchange (tx : List Byte) (l : Link) : Option (List Byte) × Link :=
  if l.answer.fault then (none, l.record (.exchange tx none))
  else (some (l.received tx.length), l.record (.exchange tx (some (l.received tx.length))))

/-- Ready() (R63): a sample of the level, with no effect on later ones. -/
def Link.ready (l : Link) : Option Bool × Link :=
  if l.answer.fault then (none, l.record (.ready none))
  else (some l.answer.level, l.record (.ready (some l.answer.level)))

/-- Sleep(ms) (R64): the virtual clock, the sum of the arguments of all Sleep calls (R34), advances by ms. -/
def Link.sleep (ms : Nat) (l : Link) : Option Unit × Link :=
  if l.answer.fault then (none, { l.record (.sleep ms false) with elapsedMs := l.elapsedMs + ms })
  else (some (), { l.record (.sleep ms true) with elapsedMs := l.elapsedMs + ms })

/-! ### Named updates of the state -/

/-- The state with its link replaced: all that a primitive can do to it. -/
def State.setLink (l : Link) (s : State) : State := { s with link := l }

/-- PHASE <- p. -/
def State.setPhase (p : Phase) (s : State) : State := { s with phase := p }

/-- AWAKE <- b. -/
def State.setAwake (b : Bool) (s : State) : State := { s with awake := b }

/-- TXBUF <- b, with TXLEN its length. -/
def State.setTxbuf (b : List Byte) (s : State) : State := { s with txbuf := b }

/-- POLLCNT <- POLLCNT + 1. -/
def State.countAttempt (s : State) : State := { s with pollcnt := s.pollcnt + 1 }

/-- The outcome of a success: STATUS <- OK, RDATA <- d with RLEN its length (R30). -/
def State.setResult (d : List Byte) (s : State) : State := { s with status := .ok, rdata := d }

/-- The value returned to the caller of an internal or Command Layer operation. -/
def State.setRet (r : Ret) (s : State) : State := { s with ret := r }

/-! ### Engine computations -/

/-- Sequencing: a failure ends the computation (R12, R295). -/
def Run.bind {α β : Type} (r : Run α) (f : α → State → Run β) : Run β :=
  match r with
  | .ok a s => f a s
  | .err e s => .err e s

/-- A primitive call of the engine: a fault is `fail BusFault` (R12, R227); a primitive touches the link alone. -/
def State.prim {α : Type} (p : Link → Option α × Link) (s : State) : Run α :=
  match p s.link with
  | (some a, l) => .ok a (s.setLink l)
  | (none, l) => .err .busFault (s.setLink l)

/-- Select(b). -/
def select (active : Bool) (s : State) : Run Unit := s.prim (Link.select active)

/-- Exchange(s). -/
def exchange (tx : List Byte) (s : State) : Run (List Byte) := s.prim (Link.exchange tx)

/-- Ready(). -/
def ready (s : State) : Run Bool := s.prim Link.ready

/-- Sleep(I) with I = POLL_INTERVAL_MS, the one argument the block uses (R64). -/
def sleepInterval (s : State) : Run Unit := s.prim (Link.sleep s.cfg.intervalMs.toNat)

/-- The bracket (R77): Select(true), one Exchange, Select(false). `store` says where the received bytes go, as soon as they
are received. -/
def bracket (tx : List Byte) (store : List Byte → State → State) (s : State) : Run Unit :=
  (select true s).bind fun _ s =>
    (exchange tx s).bind fun rx s => select false (store rx s)

/-- The store of an exchange whose received bytes are discarded (R66). -/
def discard (_ : List Byte) (s : State) : State := s

/-! ### Failure entry and return -/

/-- The errors after which AWAKE keeps its value: the chip was not reached, or it answered (R293). -/
def keepsAwake (e : Err) : Bool := e == .payloadTooLarge || e == .nakReceived

/-- The failure entry of the engine, `fail E` (R292): STATUS, RLEN, AWAKE by R293, PHASE, and nothing else. -/
def failEntry (e : Err) (s : State) : State :=
  { s with
    status := .error e
    rdata := []
    awake := keepsAwake e && s.awake
    phase := .failed }

/-- The return from Done or Failed to Idle (R226, R296). -/
def returnToIdle (s : State) : State := s.setPhase .idle

/-- The failure of a pure host operation (R294): STATUS and RLEN alone. -/
def failPure (e : Err) (s : State) : State := { s with status := .error e, rdata := [] }

/-- The state an engine computation leaves: where it fails, after the failure entry. -/
def settle {α : Type} (r : Run α) : State :=
  match r with
  | .ok _ s => s
  | .err e s => failEntry e s

end Sys2Proof.Machine
end

