-- ==== Sys2Proof/Machine/Flags.lean ====
section
/-! DEFINITION. Code values of PHASE, STATUS and TMODE and the predicates over them. The block has no arithmetic condition
codes (R29); its one flag AWAKE changes in WAKE_STEP and in the failure entry alone (R27). -/

namespace Sys2Proof.Machine

/-- The code of PHASE (R25). -/
def Phase.code : Phase → BitVec 3
  | .idle => 0
  | .wokenUp => 1
  | .frameSent => 2
  | .awaitingAck => 3
  | .awaitingResponse => 4
  | .done => 5
  | .failed => 6

/-- The code of an error (R106, R280). -/
def errCode : Err → BitVec 4
  | .payloadTooLarge => 2
  | .badPreamble => 3
  | .checksumMismatch => 4
  | .truncated => 5
  | .opcodeMismatch => 6
  | .nakReceived => 7
  | .ackTimeout => 8
  | .responseTimeout => 9
  | .busFault => 10
  | .targetNotFound => 11
  | .chipNotResponding => 12

/-- The code of STATUS (R106). -/
def Status.code : Status → BitVec 4
  | .none => 0
  | .ok => 1
  | .error e => errCode e

/-- TMODE as its bit (R22). -/
def tmodeBit : TMode → BitVec 1
  | .single => 0
  | .dual => 1

/-- BUSY (R28). -/
def State.busy (s : State) : Bool := s.phase != .idle

/-- The class FrameError (R280). -/
def isFrameError (e : Err) : Bool := e == .badPreamble || e == .checksumMismatch || e == .truncated

/-- The errors the block itself can produce, codes 2 to 10 (R280). -/
def isBlockError (e : Err) : Bool := !(e == .targetNotFound || e == .chipNotResponding)

end Sys2Proof.Machine
end

