-- ==== Sys2Proof/Machine/Operands.lean ====
section
/-! DEFINITION. Operands: the length registers, the host's operand writes, the host's view of the results, the timeout
forms and the budgets. -/

namespace Sys2Proof.Machine

/-! ### Length registers (R22, R30, R32): views of the buffers -/

/-- ARGLEN. -/
def State.arglen (s : State) : BitVec 8 := BitVec.ofNat 8 s.args.length

/-- TXLEN. -/
def State.txlen (s : State) : BitVec 9 := BitVec.ofNat 9 s.txbuf.length

/-- RXLEN. -/
def State.rxlen (s : State) : BitVec 9 := BitVec.ofNat 9 s.rxbuf.length

/-- CINLEN. -/
def State.cinlen (s : State) : BitVec 8 := BitVec.ofNat 8 s.cin.length

/-- DINLEN. -/
def State.dinlen (s : State) : BitVec 9 := BitVec.ofNat 9 s.din.length

/-- RLEN. -/
def State.rlen (s : State) : BitVec 9 := BitVec.ofNat 9 s.rdata.length

/-- WAKE_LEN. -/
def State.wakelen (s : State) : BitVec 8 := BitVec.ofNat 8 s.cfg.wakeSeq.length

/-! ### The host's writes and reads -/

/-- A host write to one operand register (R22, R105), marked as written (R37). -/
def hostWrite (w : HostWrite) (s : State) : State :=
  match w with
  | .opcode b => { s with opcode := b, written := { s.written with opcode := true } }
  | .args bs => { s with args := bs, written := { s.written with args := true } }
  | .tmode m => { s with tmode := m, written := { s.written with tmode := true } }
  | .t1 t => { s with t1 := t, written := { s.written with t1 := true } }
  | .t2 t => { s with t2 := t, written := { s.written with t2 := true } }
  | .cinTfi b => { s with cinTfi := b, written := { s.written with cinTfi := true } }
  | .cin bs => { s with cin := bs, written := { s.written with cin := true } }
  | .din bs => { s with din := bs, written := { s.written with din := true } }

/-- What the host reads (R30): STATUS as its code, RTFI, RLEN, and RDATA, which is no value before the first completion
(R37). -/
structure Results where
  status : BitVec 4
  rtfi : Byte
  rlen : BitVec 9
  rdata : Option (List Byte)
deriving DecidableEq, Repr

/-- RDATA as the host reads it: a read while STATUS = NONE is a use of an unwritten register and gives nothing (R37). -/
def State.readData (s : State) : Option (List Byte) := if s.status = .none then none else some s.rdata

/-- The host's read of the result registers, possible exactly while PHASE is Idle (R30). -/
def State.readResults (s : State) : Option Results :=
  if s.busy then none else some ⟨s.status.code, s.rtfi, s.rlen, s.readData⟩

/-- The writes of a timeout to TMODE, T1 and T2 (R22: in SINGLE form T2 is ignored, so it is not written). -/
def writeTimeout (tm : Timeout) (s : State) : State :=
  match tm with
  | .single t => hostWrite (.t1 t) (hostWrite (.tmode .single) s)
  | .dual a r => hostWrite (.t2 r) (hostWrite (.t1 a) (hostWrite (.tmode .dual) s))

/-- The writes of all operands of a REQUEST (R105). -/
def writeRequest (op : Byte) (args : List Byte) (tm : Timeout) (s : State) : State :=
  writeTimeout tm (hostWrite (.args args) (hostWrite (.opcode op) s))

/-! ### Budgets -/

/-- SPLIT (R191): the two phase budgets of a timeout. -/
def splitBudgets (m : TMode) (t1 t2 : Word16) : Word16 × Word16 :=
  match m with
  | .dual => (t1, t2)
  | .single => (t1 / 2, t1 - t1 / 2)

/-- LIMIT(T) = min(M, ceil(T / I)) on natural numbers (R190). -/
def limit (c : Config) (t : Word16) : Word16 :=
  BitVec.ofNat 16
    (min c.maxAttempts.toNat ((t.toNat + c.intervalMs.toNat - 1) / c.intervalMs.toNat))

/-- The outcome of a completed REQUEST as its caller sees it (R13, R210). -/
def State.result (s : State) : Result (List Byte) :=
  match s.status with
  | .error e => .err e
  | .ok => .ok s.rdata
  | .none => .ok s.rdata

end Sys2Proof.Machine
end

