-- ==== Sys2Proof/Machine/Codec.lean ====
section
/-! DEFINITION. The Frame Codec's instructions (40_frame_codec.md): ENCODE, DECODE, LCS, DCS. None of them issues a
primitive or reads the engine's state. -/

namespace Sys2Proof.Machine

/-- ENCODE as a host operation (R133, R134, R294). -/
def execEncode (s : State) : Host.Outcome State Fault Refusal :=
  match encodeFrame s.cinTfi s.cin with
  | .ok f => .next (s.setResult f)
  | .err e => .next (failPure e s)

/-- DECODE as a host operation (R136, R294): RTFI is written on success alone (R30). -/
def execDecode (s : State) : Host.Outcome State Fault Refusal :=
  match decodeFrame s.din with
  | .ok (tfi, payload) => .next (State.setResult payload { s with rtfi := tfi })
  | .err e => .next (failPure e s)

/-- LCS (R131): a value, no register. -/
def execLcs (len : Byte) (s : State) : Host.Outcome State Fault Refusal :=
  .next (s.setRet (.byte (lcs len)))

/-- DCS (R132): a value, no register. -/
def execDcs (tfi : Byte) (payload : List Byte) (s : State) : Host.Outcome State Fault Refusal :=
  .next (s.setRet (.byte (dcs tfi payload)))

end Sys2Proof.Machine
end

