-- ==== Sys2Proof/Machine/Correlator.lean ====
section
/-! DEFINITION. The ACK detector and the command/response correlator (41_ack_correlator.md): ACKMATCH, EXPECT, CORRELATE. -/

namespace Sys2Proof.Machine

/-- ACKMATCH(b) (R170): all six bytes compared, from index 0. -/
def ackMatch (b : List Byte) : AckClass :=
  if b = ackFrame then .ack else if b = nakFrame then .nak else .neither

/-- EXPECT(op) (R172). -/
def expectTag (op : Byte) : Byte := op + 1

/-- CORRELATE(op, tfi, P) (R173), the four steps in order. -/
def correlate (op tfi : Byte) (payload : List Byte) : Result (List Byte) :=
  if tfi ≠ tfiToHost then .err .opcodeMismatch
  else
    match payload with
    | [] => .err .truncated
    | tag :: data => if tag ≠ expectTag op then .err .opcodeMismatch else .ok data

/-- ACKMATCH on ACKBUF (R170): a value, no register. -/
def execAckmatch (s : State) : Host.Outcome State Fault Refusal :=
  .next (s.setRet (.ackClass (ackMatch s.ackbuf)))

/-- EXPECT on OPCODE (R172): a value, no register. -/
def execExpect (s : State) : Host.Outcome State Fault Refusal :=
  .next (s.setRet (.byte (expectTag s.opcode)))

/-- CORRELATE with OPCODE (R173): a value, no register. -/
def execCorrelate (tfi : Byte) (payload : List Byte) (s : State) : Host.Outcome State Fault Refusal :=
  match correlate s.opcode tfi payload with
  | .ok d => .next (s.setRet (.data d))
  | .err e => .next (s.setRet (.error e))

end Sys2Proof.Machine
end

