-- ==== Sys2Proof/Machine/Polling.lean ====
section
/-! DEFINITION. Ready-signal polling and wake-up (42_ready_poll.md): LIMIT, SPLIT, POLL, WAKE_STEP and the host operation
WAKE. -/

namespace Sys2Proof.Machine

/-- SPLIT on TMODE, T1, T2, stored in TACK and TRESP (R191). -/
def storeBudgets (s : State) : State :=
  { s with tack := (splitBudgets s.tmode s.t1 s.t2).1, tresp := (splitBudgets s.tmode s.t1 s.t2).2 }

/-- What ends a failed attempt (R193, R222): Sleep(I), then POLLCNT + 1. -/
def failedAttempt (s : State) : Run Unit :=
  (sleepInterval s).bind fun _ s => .ok () s.countAttempt

/-- POLL's loop with n attempts left before the bound (R193): the bound is checked before each sample. -/
def pollLoop : Nat → State → Run PollResult
  | 0, s => .ok .timedOut s
  | n + 1, s =>
    (ready s).bind fun r s =>
      if r then .ok .isReady s else (failedAttempt s).bind fun _ s => pollLoop n s

/-- POLL (R193): POLLLIM - POLLCNT attempts are left. -/
def poll (s : State) : Run PollResult := pollLoop (s.polllim.toNat - s.pollcnt.toNat) s

/-- WAKE_STEP (R196). -/
def wakeStep (s : State) : Run Unit :=
  (bracket s.cfg.wakeSeq discard s).bind fun _ s => .ok () (s.setAwake true)

/-- LIMIT (R190), its result written to POLLLIM. -/
def execLimit (budget : Word16) (s : State) : Host.Outcome State Fault Refusal :=
  .next { s with polllim := limit s.cfg budget }

/-- SPLIT (R191). -/
def execSplit (s : State) : Host.Outcome State Fault Refusal := .next (storeBudgets s)

/-- POLL (R193): its value is returned, a fault is the engine's `fail BusFault` (R227, R292). -/
def execPoll (s : State) : Host.Outcome State Fault Refusal :=
  .next (settle ((poll s).bind fun r s => .ok r (s.setRet (.poll r))))

/-- WAKE_STEP (R196): a fault is the engine's `fail BusFault`. -/
def execWakeStep (s : State) : Host.Outcome State Fault Refusal := .next (settle (wakeStep s))

/-- WAKE as a host operation (R198): accepted in Idle only, PHASE stays Idle throughout. -/
def execWake (s : State) : Host.Outcome State Fault Refusal :=
  if s.busy then .refused .busy
  else
    match wakeStep s with
    | .ok _ s => .next (s.setResult [])
    | .err e s => .next ((failPure e s).setAwake false)

end Sys2Proof.Machine
end

