-- ==== Sys2Proof/Machine/Engine.lean ====
section
/-! DEFINITION. The Handshake Engine (43_handshake_engine.md): SENDFRAME, READACK, READRESP, and REQUEST as the procedure of
R214. -/

namespace Sys2Proof.Machine

/-! ### The three link operations -/

/-- SENDFRAME (R211). -/
def sendFrame (s : State) : Run Unit := bracket s.txbuf discard s

/-- The store of READACK. -/
def storeAck (rx : List Byte) (s : State) : State := { s with ackbuf := rx }

/-- READACK (R212). -/
def readAck (s : State) : Run Unit := bracket (List.replicate 6 s.cfg.txFill) storeAck s

/-- The store of READRESP. -/
def storeResp (rx : List Byte) (s : State) : State := { s with rxbuf := rx }

/-- READRESP (R213). -/
def readResp (s : State) : Run Unit :=
  bracket (List.replicate s.cfg.rxCount.toNat s.cfg.txFill) storeResp s

/-! ### The pieces of REQUEST -/

/-- ENCODE of the command into TXBUF (R214 S0, R133). -/
def loadFrame (op : Byte) (args : List Byte) (s : State) : Run Unit :=
  match encodeFrame tfiToChip (op :: args) with
  | .ok f => .ok () (s.setTxbuf f)
  | .err e => .err e s

/-- S1 (R217): the wake-up exactly when AWAKE = 0, then PHASE <- WokenUp. -/
def wakeIfNeeded (s : State) : Run Unit :=
  (if s.awake then .ok () s else wakeStep s).bind fun _ s => .ok () (s.setPhase .wokenUp)

/-- S0 and S1 (R216, R217): from Idle to WokenUp. -/
def startRequest (s : State) : Run Unit :=
  (loadFrame s.opcode s.args (storeBudgets s)).bind fun _ s => wakeIfNeeded s

/-- S2 (R218). -/
def sendCommand (s : State) : Run Unit :=
  (sendFrame s).bind fun _ s => .ok () (s.setPhase .frameSent)

/-- S3 (R219). -/
def enterAckWait (s : State) : State :=
  { s with pollcnt := 0, polllim := limit s.cfg s.tack, phase := .awaitingAck }

/-- S4 (R214), with at most n polls: on an ACK the computation succeeds. Each Neither read has raised POLLCNT, so with
more polls than attempts left the last one finds the bound reached. -/
def ackWait : Nat → State → Run Unit
  | 0, s => .err .ackTimeout s
  | n + 1, s =>
    (poll s).bind fun r s =>
      match r with
      | .timedOut => .err .ackTimeout s
      | .isReady =>
        (readAck s).bind fun _ s =>
          match ackMatch s.ackbuf with
          | .ack => .ok () s
          | .nak => .err .nakReceived s
          | .neither => (failedAttempt s).bind fun _ s => ackWait n s

/-- S5 (R222). -/
def enterResponseWait (s : State) : State :=
  { s with pollcnt := 0, polllim := limit s.cfg s.tresp, phase := .awaitingResponse }

/-- What follows a successful DECODE in S6, and S7 (R225): CORRELATE, then the result registers and Done. -/
def acceptResponse (tfi : Byte) (payload : List Byte) (s : State) : Run Unit :=
  match correlate s.opcode tfi payload with
  | .ok d => .ok () ((s.setResult d).setPhase .done)
  | .err e => .err e s

/-- S6 and S7 (R214). -/
def responseWait (s : State) : Run Unit :=
  (poll s).bind fun r s =>
    match r with
    | .timedOut => .err .responseTimeout s
    | .isReady =>
      (readResp s).bind fun _ s =>
        match decodeFrame s.rxbuf with
        | .ok (tfi, payload) => acceptResponse tfi payload s
        | .err e => .err e s

/-- S0 to S7 of R214. -/
def requestBody (s : State) : Run Unit :=
  (startRequest s).bind fun _ s =>
    (sendCommand s).bind fun _ s =>
      (ackWait ((limit s.cfg s.tack).toNat + 1) (enterAckWait s)).bind fun _ s =>
        responseWait (enterResponseWait s)

/-- REQUEST run to its end in Idle (R214 S0 to S8, R226, R292). -/
def runRequest (s : State) : State := returnToIdle (settle (requestBody s))

/-! ### The instructions -/

/-- SENDFRAME (R211): a fault is the engine's `fail BusFault` (R227, R292). -/
def execSendframe (s : State) : Host.Outcome State Fault Refusal := .next (settle (sendFrame s))

/-- READACK (R212): a fault is the engine's `fail BusFault`. -/
def execReadack (s : State) : Host.Outcome State Fault Refusal := .next (settle (readAck s))

/-- READRESP (R213): a fault is the engine's `fail BusFault`. -/
def execReadresp (s : State) : Host.Outcome State Fault Refusal := .next (settle (readResp s))

/-- REQUEST (R210, R214): accepted in Idle only (R328); it blocks until PHASE is Idle again. -/
def execRequest (s : State) : Host.Outcome State Fault Refusal :=
  if s.busy then .refused .busy else .next (runRequest s)

end Sys2Proof.Machine
end

