-- ==== Sys2Proof/Machine/CommandLayer.lean ====
section
/-! DEFINITION. The Command Layer's pseudo-operations (44_command_layer.md), host software: build the arguments, run one
REQUEST, parse the response data by fixed offsets. Their result is returned, the block's registers are REQUEST's. -/

namespace Sys2Proof.Machine

/-- The shape of every operation (R260): one REQUEST, then `parse` on its data or `onErr` on its error. The host has no
move while the block is busy (R328). -/
def callEngine (op : Byte) (args : List Byte) (tm : Timeout) (parse : List Byte → Ret) (onErr : Err → Ret)
    (s : State) : Host.Outcome State Fault Refusal :=
  if s.busy then .refused .busy
  else
    match (runRequest (writeRequest op args tm s)).result with
    | .ok d => .next ((runRequest (writeRequest op args tm s)).setRet (parse d))
    | .err e => .next ((runRequest (writeRequest op args tm s)).setRet (onErr e))

/-- The parse of GetFirmwareVersion (R262, R263): four bytes, more are ignored (R261). -/
def parseFirmware (data : List Byte) : Ret :=
  match data with
  | ic :: version :: revision :: support :: _ => .firmware ic version revision support
  | _ => .error .truncated

/-- The parse of ReadPassiveTarget (R266, R267); `notFound` is the target-count that means "not found". -/
def parseTarget (notFound : Byte) (data : List Byte) : Ret :=
  if data.length < 1 then .error .truncated
  else if data.getD 0 0 = notFound then .targetNotFound
  else if data.length < 6 then .error .truncated
  else if data.length < 6 + (data.getD 5 0).toNat then .error .truncated
  else .uid (slice data 6 (6 + (data.getD 5 0).toNat))

/-- The byte of a SAM mode (R264). -/
def samByte (p : CommandParams) (m : SamMode) : Byte :=
  match m with
  | .normal => p.samNormal
  | .virtualCard => p.samVirtual
  | .wiredCard => p.samWired
  | .dualCard => p.samDual

/-- The IRQ-enable flag's byte: 0x01 for enabled, 0x00 for disabled (R264). -/
def irqByte (irq : Bool) : Byte := if irq then 0x01 else 0x00

/-- GetFirmwareVersion (R262): any engine error becomes ChipNotResponding with that cause. -/
def execGetFirmwareVersion (tm : Timeout) (s : State) : Host.Outcome State Fault Refusal :=
  callEngine s.layer.opGetFirmwareVersion [] tm parseFirmware Ret.chipNotResponding s

/-- SAMConfiguration (R264): arguments mode, timeout byte, IRQ flag; the response data is not looked at. -/
def execSamConfiguration (mode : SamMode) (timeoutByte : Byte) (irq : Bool) (tm : Timeout) (s : State) :
    Host.Outcome State Fault Refusal :=
  callEngine s.layer.opSamConfiguration [samByte s.layer mode, timeoutByte, irqByte irq] tm (fun _ => .unit)
    Ret.error s

/-- ReadPassiveTarget (R265 to R267): arguments 0x01, the maximum number of targets, and the profile. -/
def execReadPassiveTarget (profile : Byte) (tm : Timeout) (s : State) : Host.Outcome State Fault Refusal :=
  callEngine s.layer.opInListPassiveTarget [0x01, profile] tm (parseTarget s.layer.notFoundCount) Ret.error s

/-- InDataExchange (R268): any arguments, the data returned unparsed. -/
def execInDataExchange (args : List Byte) (tm : Timeout) (s : State) : Host.Outcome State Fault Refusal :=
  callEngine s.layer.opInDataExchange args tm Ret.data Ret.error s

end Sys2Proof.Machine
end

