-- ==== Sys2Proof/Machine/Wire.lean ====
section
/-! DEFINITION. The wire rows (30_encoding.md): what the block does with a frame it has read, or puts a frame on the link. A
frame is recognised by the phase, not by its bytes alone (R100): the ACK wait asks only "ACK, NAK or neither", the
response wait asks only DECODE, and in no other phase does the block read from the link. -/

namespace Sys2Proof.Machine

/-- An information frame that has been read (R100): in the ACK wait its six bytes are Neither (R99, R222), in the response
wait it goes to CORRELATE (R225). -/
def receiveFrame (tfi : Byte) (payload : List Byte) (s : State) : State :=
  match s.phase with
  | .awaitingAck => settle (failedAttempt s)
  | .awaitingResponse => settle (acceptResponse tfi payload s)
  | .idle => s
  | .wokenUp => s
  | .frameSent => s
  | .done => s
  | .failed => s

/-- An ACK or NAK that has been read: in the ACK wait `onMatch` says what follows (R222); handed to DECODE in the response
wait it fails with ChecksumMismatch (R99, R100). -/
def receiveConstant (onMatch : State → State) (s : State) : State :=
  match s.phase with
  | .awaitingAck => onMatch s
  | .awaitingResponse => failEntry .checksumMismatch s
  | .idle => s
  | .wokenUp => s
  | .frameSent => s
  | .done => s
  | .failed => s

/-- ACK (R93, R222). -/
def execAck (s : State) : Host.Outcome State Fault Refusal := .next (receiveConstant enterResponseWait s)

/-- NAK (R94, R222, R286). -/
def execNak (s : State) : Host.Outcome State Fault Refusal :=
  .next (receiveConstant (failEntry .nakReceived) s)

/-- INFO (R90, R100): an information frame read from the link, whatever its direction byte. -/
def execInfo (tfi : Byte) (payload : List Byte) (s : State) : Host.Outcome State Fault Refusal :=
  .next (receiveFrame tfi payload s)

/-- INFO.RSP (R98, R225): a response frame, direction byte 0xD5, read from the link. -/
def execInfoRsp (tag : Byte) (data : List Byte) (s : State) : Host.Outcome State Fault Refusal :=
  .next (receiveFrame tfiToHost (tag :: data) s)

/-- INFO.CMD (R98, R218): the block writes a command frame in WokenUp, and there alone. -/
def execInfoCmd (op : Byte) (args : List Byte) (s : State) : Host.Outcome State Fault Refusal :=
  match s.phase with
  | .wokenUp => .next (settle ((loadFrame op args s).bind fun _ s => sendCommand s))
  | .idle => .next s
  | .frameSent => .next s
  | .awaitingAck => .next s
  | .awaitingResponse => .next s
  | .done => .next s
  | .failed => .next s

/-- WAKEUP (R101, R196): the block puts WAKE_SEQ on the link in Idle (S1 of REQUEST, or WAKE), and there alone. -/
def execWakeup (s : State) : Host.Outcome State Fault Refusal :=
  match s.phase with
  | .idle => .next (settle (wakeStep s))
  | .wokenUp => .next s
  | .frameSent => .next s
  | .awaitingAck => .next s
  | .awaitingResponse => .next s
  | .done => .next s
  | .failed => .next s

end Sys2Proof.Machine
end

