-- ==== Sys2Proof/Machine/Dispatch.lean ====
section
/-! DEFINITION. The dispatch: one arm per row of the opcode table. -/

namespace Sys2Proof.Machine

def exec (i : Instr) (s : State) : Host.Outcome State Fault Refusal :=
  match i with
  -- host operations
  | .encode => Sys2Proof.Machine.execEncode s
  | .decode => Sys2Proof.Machine.execDecode s
  | .request => Sys2Proof.Machine.execRequest s
  | .wake => Sys2Proof.Machine.execWake s
  -- internal operations
  | .lcs len => Sys2Proof.Machine.execLcs len s
  | .dcs tfi payload => Sys2Proof.Machine.execDcs tfi payload s
  | .ackmatch => Sys2Proof.Machine.execAckmatch s
  | .expect => Sys2Proof.Machine.execExpect s
  | .correlate tfi payload => Sys2Proof.Machine.execCorrelate tfi payload s
  | .limit budget => Sys2Proof.Machine.execLimit budget s
  | .split => Sys2Proof.Machine.execSplit s
  | .poll => Sys2Proof.Machine.execPoll s
  | .wakeStep => Sys2Proof.Machine.execWakeStep s
  | .sendframe => Sys2Proof.Machine.execSendframe s
  | .readack => Sys2Proof.Machine.execReadack s
  | .readresp => Sys2Proof.Machine.execReadresp s
  -- wire rows
  | .ack => Sys2Proof.Machine.execAck s
  | .nak => Sys2Proof.Machine.execNak s
  | .info tfi payload => Sys2Proof.Machine.execInfo tfi payload s
  | .infoCmd opcode args => Sys2Proof.Machine.execInfoCmd opcode args s
  | .infoRsp tag data => Sys2Proof.Machine.execInfoRsp tag data s
  | .wakeup => Sys2Proof.Machine.execWakeup s
  -- Command Layer pseudo-operations
  | .getFirmwareVersion tm => Sys2Proof.Machine.execGetFirmwareVersion tm s
  | .samConfiguration mode timeoutByte irq tm => Sys2Proof.Machine.execSamConfiguration mode timeoutByte irq tm s
  | .readPassiveTarget profile tm => Sys2Proof.Machine.execReadPassiveTarget profile tm s
  | .inDataExchange args tm => Sys2Proof.Machine.execInDataExchange args tm s

end Sys2Proof.Machine
end

