-- ==== Sys2Proof/Machine/Sequencer.lean ====
section
/-! DEFINITION. What one step does: in Idle the host's next move, in every other phase one transition of PHASE (R216 to
R226). The block fetches no instructions (R24, R79): the operation port and the frames read from the link select what is
executed. -/

namespace Sys2Proof.Machine

/-- The rows a host may call: the Command Layer's operations (R105, R109). -/
def isPseudo : Instr → Bool
  | .getFirmwareVersion _ => true
  | .samConfiguration _ _ _ _ => true
  | .readPassiveTarget _ _ => true
  | .inDataExchange _ _ => true
  | .encode => false
  | .decode => false
  | .request => false
  | .wake => false
  | .lcs _ => false
  | .dcs _ _ => false
  | .ackmatch => false
  | .expect => false
  | .correlate _ _ => false
  | .limit _ => false
  | .split => false
  | .poll => false
  | .wakeStep => false
  | .sendframe => false
  | .readack => false
  | .readresp => false
  | .ack => false
  | .nak => false
  | .info _ _ => false
  | .infoCmd _ _ => false
  | .infoRsp _ _ => false
  | .wakeup => false

/-- A command byte at the operation port (R103, R104). -/
def operationPort (b : Byte) (s : State) : Host.Outcome State Fault Refusal :=
  match decode .hostPort [b] with
  | .ok i _ => exec i s
  | .rejected _ => .refused .reservedSelector

/-- The host's next move in Idle (R20, R103); with none the block waits (R320). -/
def hostMove (s : State) : Host.Outcome State Fault Refusal :=
  match s.hostq with
  | [] => .next s
  | m :: rest =>
    match m with
    | .write w => .next (hostWrite w { s with hostq := rest })
    | .command b => operationPort b { s with hostq := rest }
    | .call op => if isPseudo op then exec op { s with hostq := rest } else .refused .notAHostCall

/-- One attempt of the ACK wait (R220 to R222): the six bytes read select ACK, NAK or neither. -/
def ackAttempt (s : State) : Host.Outcome State Fault Refusal :=
  if s.polllim ≤ s.pollcnt then .next (failEntry .ackTimeout s)
  else
    match ready s with
    | .err e s => .next (failEntry e s)
    | .ok false s => .next (settle (failedAttempt s))
    | .ok true s =>
      match readAck s with
      | .err e s => .next (failEntry e s)
      | .ok _ s =>
        match ackMatch s.ackbuf with
        | .ack => exec .ack s
        | .nak => exec .nak s
        | .neither => .next (settle (failedAttempt s))

/-- One attempt of the response wait (R223 to R225): the frame read, as DECODE finds it, is executed. -/
def responseAttempt (s : State) : Host.Outcome State Fault Refusal :=
  if s.polllim ≤ s.pollcnt then .next (failEntry .responseTimeout s)
  else
    match ready s with
    | .err e s => .next (failEntry e s)
    | .ok false s => .next (settle (failedAttempt s))
    | .ok true s =>
      match readResp s with
      | .err e s => .next (failEntry e s)
      | .ok _ s =>
        match decodeFrame s.rxbuf with
        | .ok (tfi, payload) => exec (receivedFrame tfi payload) s
        | .err e => .next (failEntry e s)

/-- One step of the machine. -/
def advance (s : State) : Host.Outcome State Fault Refusal :=
  match s.phase with
  | .idle => hostMove s
  | .wokenUp => .next (settle (sendCommand s))
  | .frameSent => .next (enterAckWait s)
  | .awaitingAck => ackAttempt s
  | .awaitingResponse => responseAttempt s
  | .done => .next (returnToIdle s)
  | .failed => .next (returnToIdle s)

/-! ### Placing an instruction where the next step finds it -/

/-- The script by which the environment hands over `bytes` at the next ready indication: ready true, Select done, the
bytes, Select done. -/
def deliver (bytes : List Byte) : List Answer :=
  [⟨false, true, []⟩, ⟨false, false, []⟩, ⟨false, false, bytes⟩, ⟨false, false, []⟩]

/-- A polling phase in its first attempt, with the environment about to hand over `bytes`. -/
def awaiting (p : Phase) (bytes : List Byte) (s : State) : State :=
  { s with
    phase := p
    pollcnt := 0
    polllim := 1
    link := { s.link with script := deliver bytes ++ s.link.script } }

/-- The configuration with RX_COUNT = 262, which holds every frame (R213). -/
def readsWholeFrame (c : Config) : Config :=
  { c with rxCount := 262, rxCount_legal := by decide }

/-- The state in which the next step executes the instruction of a table word (log entry 16): a command byte at the
operation port in Idle; an ACK or NAK about to be read in the ACK wait; a command frame in TXBUF in WokenUp; any other
frame about to be read in the response wait. -/
def placeWord (s : State) (nbits w : Nat) : State :=
  if nbits ≤ 8 then
    { s with phase := .idle, hostq := .command (BitVec.ofNat 8 (w % 2 ^ nbits)) :: s.hostq }
  else
    match decodeTableWord nbits w with
    | some .ack => awaiting .awaitingAck ackFrame s
    | some .nak => awaiting .awaitingAck nakFrame s
    | some (.infoCmd op args) =>
      { s with phase := .wokenUp, txbuf := (frameOf tfiToChip (op :: args)).getD [] }
    | _ => { awaiting .awaitingResponse (tableBytes nbits w) s with cfg := readsWholeFrame s.cfg }

end Sys2Proof.Machine
end

