-- ==== Sys2Proof/Safety.lean ====
section
/-! DEFINITION. What counts as a safe state and a well-behaved trace: the vocabulary the statements use. -/

namespace Sys2Proof.Machine

/-! ### The host's duties -/

/-- The operand registers of an operation have been written (R37, R322 (4)). -/
def operandsReady (i : Instr) (s : State) : Bool :=
  match i with
  | .encode => s.written.cinTfi && s.written.cin
  | .decode => s.written.din
  | .request =>
    s.written.opcode && s.written.args && s.written.tmode && s.written.t1 && (s.tmode == .single || s.written.t2)
  | _ => true

/-- A run step that keeps the host's duties: the operation a command byte selects has its operands written. -/
def keepsDuty (s : State) : Bool :=
  match s.phase, s.hostq with
  | .idle, .command b :: _ =>
    match decodeSelector b with
    | some i => operandsReady i s
    | none => false
  | _, _ => true

/-! ### The invariant -/

/-- Every buffer holds at most its capacity (R22, R30). -/
def BuffersFit (s : State) : Prop :=
  s.args.length ≤ 255 ∧ s.txbuf.length ≤ 262 ∧ s.ackbuf.length = 6 ∧ s.rxbuf.length ≤ 262 ∧
    s.cin.length ≤ 255 ∧ s.din.length ≤ 262 ∧ s.rdata.length ≤ 262

/-- A host move carries what the operand registers can hold. -/
def moveFits : HostMove → Bool
  | .write (.args bs) => bs.length ≤ 255
  | .write (.cin bs) => bs.length ≤ 255
  | .write (.din bs) => bs.length ≤ 262
  | .write _ => true
  | .command _ => true
  | .call op => WellFormed op

/-- POLLCNT never exceeds POLLLIM, and POLLLIM never exceeds MAX_ATTEMPTS (R26). -/
def PollBounded (s : State) : Prop :=
  s.pollcnt.toNat ≤ s.polllim.toNat ∧ s.polllim.toNat ≤ s.cfg.maxAttempts.toNat

/-- STATUS holds no code of the Command Layer (R106, R280), and Done and Failed hold their outcome (R25). -/
def StatusLegal (s : State) : Prop :=
  (∀ e, s.status = .error e → isBlockError e = true) ∧
    (s.phase = .done → s.status = .ok) ∧ (s.phase = .failed → ∃ e, s.status = .error e)

/-- The phases in which a command is in flight. -/
def inFlight (p : Phase) : Bool :=
  p == .wokenUp || p == .frameSent || p == .awaitingAck || p == .awaitingResponse

/-- While a command is in flight the chip is believed awake (R217), TXBUF holds the frame of the latched command (R214 S0),
TACK and TRESP are its budgets, and POLLLIM is the bound of the polling phase that runs (R219, R222). -/
def RequestLoaded (s : State) : Prop :=
  inFlight s.phase = true →
    s.awake = true ∧ encodeFrame tfiToChip (s.opcode :: s.args) = .ok s.txbuf ∧
      (s.tack, s.tresp) = splitBudgets s.tmode s.t1 s.t2 ∧
      (s.phase = .awaitingAck → s.polllim = limit s.cfg s.tack) ∧
      (s.phase = .awaitingResponse → s.polllim = limit s.cfg s.tresp)

/-- The sum of the arguments of all Sleep calls of a trace (R34 (c)). -/
def sleptMs : List Event → Nat
  | [] => 0
  | .sleep ms _ :: es => ms + sleptMs es
  | .select _ _ :: es => sleptMs es
  | .exchange _ _ :: es => sleptMs es
  | .ready _ :: es => sleptMs es

/-- The virtual clock and the call counter agree with the transport trace (R34, R81). -/
def ClockAgrees (s : State) : Prop :=
  s.link.elapsedMs = sleptMs s.link.trace ∧ s.link.calls = s.link.trace.length

/-- The invariant that every step keeps. -/
def State.Inv (s : State) : Prop :=
  BuffersFit s ∧ (∀ m ∈ s.hostq, moveFits m = true) ∧ PollBounded s ∧ StatusLegal s ∧ RequestLoaded s ∧ ClockAgrees s

/-! ### Traces -/

/-- A primitive call that ended in a fault (R65). -/
def isFault : Event → Bool
  | .select _ returned => !returned
  | .exchange _ rx => rx.isNone
  | .ready level => level.isNone
  | .sleep _ returned => !returned

/-- A call of Ready. -/
def isReadyCall : Event → Bool
  | .ready _ => true
  | .select _ _ => false
  | .exchange _ _ => false
  | .sleep _ _ => false

/-- A call of Sleep. -/
def isSleepCall : Event → Bool
  | .sleep _ _ => true
  | .select _ _ => false
  | .exchange _ _ => false
  | .ready _ => false

/-- An Exchange of n bytes. -/
def isExchangeOf (n : Nat) : Event → Bool
  | .exchange tx _ => tx.length == n
  | .select _ _ => false
  | .ready _ => false
  | .sleep _ _ => false

/-- What the Exchanges of a trace sent, oldest first, those that faulted included. -/
def sentBytes : List Event → List (List Byte)
  | [] => []
  | .exchange tx _ :: es => tx :: sentBytes es
  | .select _ _ :: es => sentBytes es
  | .ready _ :: es => sentBytes es
  | .sleep _ _ :: es => sentBytes es

/-- Every Exchange stands in a bracket of its own: immediately after Select(true) and immediately before Select(false),
and every Select belongs to such a bracket (R77). -/
def wellBracketed : List Event → Bool
  | [] => true
  | .ready _ :: es => wellBracketed es
  | .sleep _ _ :: es => wellBracketed es
  | .select true _ :: .exchange _ _ :: .select false _ :: es => wellBracketed es
  | .select _ _ :: _ => false
  | .exchange _ _ :: _ => false

/-- The brackets of the link: without a fault, every exchange is bracketed and SEL is deasserted between steps (R34 (a),
R77). -/
def LinkClosed (s : State) : Prop :=
  (∀ e ∈ s.link.trace, isFault e = false) → wellBracketed s.link.trace = true ∧ s.link.sel = false

/-- The events of a bracket that completed: `tx` sent, `rx` received. -/
def bracketEvents (tx rx : List Byte) : List Event :=
  [.select true true, .exchange tx (some rx), .select false true]

/-- The events of n failed attempts: a sample that was false, a sleep of ms milliseconds. -/
def waitEvents (ms : Nat) : Nat → List Event
  | 0 => []
  | n + 1 => .ready (some false) :: .sleep ms true :: waitEvents ms n

/-- The link after n failed attempts of ms milliseconds each. -/
def Link.afterWait (l : Link) (ms n : Nat) : Link :=
  { l with
    elapsedMs := l.elapsedMs + n * ms
    script := l.script.drop (2 * n)
    calls := l.calls + 2 * n
    trace := l.trace ++ waitEvents ms n }

/-- The link after a ready signal sampled true. -/
def Link.afterRaised (l : Link) : Link :=
  { l with script := l.script.drop 1, calls := l.calls + 1, trace := l.trace ++ [.ready (some true)] }

/-- The link after a bracket that completed. -/
def Link.afterBracket (l : Link) (tx rx : List Byte) : Link :=
  { l with
    sel := false
    script := l.script.drop 3
    calls := l.calls + 3
    trace := l.trace ++ bracketEvents tx rx }

/-! ### The frame by arithmetic on natural numbers -/

/-- `sum(s)`, the natural-number sum of the bytes (R11). -/
def natSum (s : List Byte) : Nat := (s.map BitVec.toNat).sum

/-- The information frame of R90 with the fields of R91. -/
def wireFrame (tfi : Byte) (payload : List Byte) : List Byte :=
  [0x00, 0x00, 0xFF, BitVec.ofNat 8 (payload.length + 1), BitVec.ofNat 8 (256 - (payload.length + 1)), tfi] ++
    payload ++ [BitVec.ofNat 8 (256 - (tfi.toNat + natSum payload) % 256), 0x00]

/-- The operand registers as a caller of REQUEST(op, args, tm) leaves them (R22, R105): in SINGLE form T2 is not used. -/
def requestOperands (op : Byte) (args : List Byte) (tm : Timeout) (s : State) : State :=
  match tm with
  | .single t =>
    { s with
      opcode := op, args := args, tmode := .single, t1 := t
      written := { s.written with opcode := true, args := true, tmode := true, t1 := true } }
  | .dual a r =>
    { s with
      opcode := op, args := args, tmode := .dual, t1 := a, t2 := r
      written := { s.written with opcode := true, args := true, tmode := true, t1 := true, t2 := true } }

/-! ### Environment answers -/

/-- Answers among which none is a fault. -/
def Clear (as : List Answer) : Prop := ∀ a ∈ as, a.fault = false

/-- The answers to n failed attempts: no fault, the ready signal never true. -/
def Quiet (n : Nat) (as : List Answer) : Prop :=
  as.length = 2 * n ∧ ∀ a ∈ as, a.fault = false ∧ a.level = false

/-- The answers to one bracket without a fault whose exchange hands over `bytes`. -/
def Hands (bytes : List Byte) (as : List Answer) : Prop :=
  ∃ x y z : Answer, as = [x, y, z] ∧ x.fault = false ∧ y.fault = false ∧ z.fault = false ∧ y.rx = bytes

/-- The answer of a ready signal sampled true. -/
def Raised (a : Answer) : Prop := a.fault = false ∧ a.level = true

end Sys2Proof.Machine
end

