-- ==== Sys2Proof/Certificates/Slice0/Obligations.lean ====
section
/-! DEFINITION. The statements for the provers. Each docstring names the rules of spec/ it formalises. -/

open Sys2Proof Sys2Proof.Machine

/-! ### Reset and configuration -/

/-- R36, R320: construction leaves the stated registers at the stated values, issues no primitive, and the block then waits
in Idle. The reset state is the construction with the suggested configuration (log entry 7). -/
def Obligations.ConstructionGivesResetState : Prop :=
  (∀ c : Config,
    (State.construct c).cfg = c ∧ (State.construct c).phase = .idle ∧ (State.construct c).awake = false ∧
      (State.construct c).status = .none ∧ (State.construct c).rlen = 0 ∧ (State.construct c).pollcnt = 0 ∧
      (State.construct c).polllim = 0 ∧ (State.construct c).link.trace = [] ∧
      step (State.construct c) = .next (State.construct c)) ∧
    State.reset = State.construct Config.suggested

/-- R8, R32, U11: an instance is constructed exactly from values in the legal ranges, and then holds them. -/
def Obligations.ConstructionRefusesIllegalConfig : Prop :=
  ∀ (i m : Word16) (r : BitVec 9) (f : Byte) (w : List Byte),
    ((Config.construct i m r f w).isSome = true ↔
      (1 ≤ i.toNat ∧ 1 ≤ m.toNat ∧ 8 ≤ r.toNat ∧ r.toNat ≤ 262 ∧ 1 ≤ w.length ∧ w.length ≤ 255)) ∧
    ∀ c, Config.construct i m r f w = some c →
      c.intervalMs = i ∧ c.maxAttempts = m ∧ c.rxCount = r ∧ c.txFill = f ∧ c.wakeSeq = w

/-! ### The Frame Codec -/

/-- R131: LCS. -/
def Obligations.LcsIsTwosComplementOfLength : Prop :=
  ∀ (len : Byte) (s : State), ∃ c : Byte,
    exec (.lcs len) s = .next { s with ret := .byte c } ∧ c.toNat = (256 - len.toNat) % 256 ∧
      (∀ l : Byte, lcsOk len l = true ↔ (len.toNat + l.toNat) % 256 = 0) ∧
      ∀ l : Byte, (len.toNat + l.toNat) % 256 = 0 ↔ l = c

/-- R132: DCS, its validity test, and that it does not see the order of the payload. -/
def Obligations.DcsBalancesTheData : Prop :=
  ∀ (tfi : Byte) (p : List Byte) (s : State), ∃ c : Byte,
    exec (.dcs tfi p) s = .next { s with ret := .byte c } ∧
      c.toNat = (256 - (tfi.toNat + natSum p) % 256) % 256 ∧
      (∀ (d : List Byte) (k : Byte), dcsOk d k = true ↔ (natSum d + k.toNat) % 256 = 0) ∧
      dcsOk (tfi :: p) c = true ∧
      ∀ q : List Byte, p.Perm q → exec (.dcs tfi q) s = exec (.dcs tfi p) s

/-- R133, R134: ENCODE builds the frame of R90, or fails with PayloadTooLarge and no frame; inside REQUEST the frame goes to
TXBUF. -/
def Obligations.EncodeBuildsFrameOrFails : Prop :=
  ∀ s : State,
    (s.cin.length ≤ 254 →
      exec .encode s = .next { s with status := .ok, rdata := wireFrame s.cinTfi s.cin } ∧
        (wireFrame s.cinTfi s.cin).length = s.cin.length + 8) ∧
    (255 ≤ s.cin.length →
      exec .encode s = .next { s with status := .error .payloadTooLarge, rdata := [] }) ∧
    ∀ (op : Byte) (args : List Byte),
      (args.length ≤ 253 → loadFrame op args s = .ok () { s with txbuf := wireFrame 0xD4 (op :: args) }) ∧
      (254 ≤ args.length → loadFrame op args s = .err .payloadTooLarge s)

/-- R135: what ENCODE guarantees of a frame, and that it is injective. -/
def Obligations.EncodedFrameGuarantees : Prop :=
  ∀ (tfi : Byte) (p f : List Byte), p.length ≤ 254 → encodeFrame tfi p = .ok f →
    f.length = p.length + 8 ∧ f.take 3 = [0x00, 0x00, 0xFF] ∧ (f.getD 3 0).toNat = p.length + 1 ∧
      ((f.getD 3 0).toNat + (f.getD 4 0).toNat) % 256 = 0 ∧ f.getD 5 0 = tfi ∧
      slice f 6 (6 + p.length) = p ∧ natSum (slice f 5 (7 + p.length)) % 256 = 0 ∧
      f.getD (p.length + 7) 0xFF = 0x00 ∧
      ∀ (tfi' : Byte) (p' : List Byte), encodeFrame tfi' p' = .ok f → tfi' = tfi ∧ p' = p

/-- R136: the seven steps of DECODE in order, on the operand DIN. -/
def Obligations.DecodeChecksInOrder : Prop :=
  ∀ (s : State) (raw : List Byte) (n : Nat), s.din = raw → (raw.getD 3 0).toNat = n →
    (raw.take 3 ≠ [0x00, 0x00, 0xFF] →
      exec .decode s = .next { s with status := .error .badPreamble, rdata := [] }) ∧
    (raw.take 3 = [0x00, 0x00, 0xFF] → raw.length < 5 →
      exec .decode s = .next { s with status := .error .truncated, rdata := [] }) ∧
    (raw.take 3 = [0x00, 0x00, 0xFF] → 5 ≤ raw.length → (n + (raw.getD 4 0).toNat) % 256 ≠ 0 →
      exec .decode s = .next { s with status := .error .checksumMismatch, rdata := [] }) ∧
    (raw.take 3 = [0x00, 0x00, 0xFF] → 5 ≤ raw.length → (n + (raw.getD 4 0).toNat) % 256 = 0 →
      n = 0 ∨ raw.length < n + 7 →
      exec .decode s = .next { s with status := .error .truncated, rdata := [] }) ∧
    (raw.take 3 = [0x00, 0x00, 0xFF] → (n + (raw.getD 4 0).toNat) % 256 = 0 → n ≠ 0 → n + 7 ≤ raw.length →
      (natSum (slice raw 5 (5 + n)) + (raw.getD (5 + n) 0).toNat) % 256 ≠ 0 →
      exec .decode s = .next { s with status := .error .checksumMismatch, rdata := [] }) ∧
    (raw.take 3 = [0x00, 0x00, 0xFF] → (n + (raw.getD 4 0).toNat) % 256 = 0 → n ≠ 0 → n + 7 ≤ raw.length →
      (natSum (slice raw 5 (5 + n)) + (raw.getD (5 + n) 0).toNat) % 256 = 0 →
      exec .decode s =
        .next { s with status := .ok, rtfi := raw.getD 5 0, rdata := slice raw 6 (5 + n) })

/-- R142, R137: DECODE is total with four shapes of result, and BadPreamble is exactly "does not start with 00 00 FF". -/
def Obligations.DecodeIsTotal : Prop :=
  ∀ raw : List Byte,
    ((∃ tfi p, decodeFrame raw = .ok (tfi, p) ∧ p.length ≤ 254 ∧ p.length + 8 ≤ raw.length) ∨
      decodeFrame raw = .err .badPreamble ∨ decodeFrame raw = .err .checksumMismatch ∨
      decodeFrame raw = .err .truncated) ∧
    (decodeFrame raw = .err .badPreamble ↔ ¬ [0x00, 0x00, 0xFF] <+: raw)

/-- R140: the round trip of the codec in both directions, and that a payload of 255 bytes or more has no frame. -/
def Obligations.CodecRoundTrip : Prop :=
  (∀ (tfi : Byte) (p : List Byte), p.length ≤ 254 →
    ∃ f, encodeFrame tfi p = .ok f ∧ decodeFrame f = .ok (tfi, p)) ∧
  (∀ (tfi : Byte) (p : List Byte), 255 ≤ p.length → encodeFrame tfi p = .err .payloadTooLarge) ∧
  ∀ (raw : List Byte) (tfi : Byte) (p : List Byte), decodeFrame raw = .ok (tfi, p) →
    encodeFrame tfi p = .ok (raw.take ((raw.getD 3 0).toNat + 6) ++ [0x00])

/-- R138: in any bytes that reach to index LEN + 6, the value there, the postamble's, is not compared and bytes after it are
ignored; but the postamble must be present. So a frame with its last byte changed, and any bytes after it, decodes as
before. -/
def Obligations.DecodeIgnoresPostambleAndTail : Prop :=
  (∀ (raw extra : List Byte) (b : Byte), (raw.getD 3 0).toNat + 7 ≤ raw.length →
    decodeFrame (raw.set ((raw.getD 3 0).toNat + 6) b ++ extra) = decodeFrame raw) ∧
  ∀ (tfi : Byte) (p f extra : List Byte) (b : Byte), encodeFrame tfi p = .ok f →
    decodeFrame (f.set (f.length - 1) b ++ extra) = .ok (tfi, p) ∧
      decodeFrame (f.take (f.length - 1)) = .err .truncated

/-- R141: what a change of one byte of a valid frame does; and that two changed bytes may go undetected. -/
def Obligations.SingleByteCorruption : Prop :=
  (∃ (tfi : Byte) (p q f : List Byte) (i j : Nat) (b c : Byte), encodeFrame tfi p = .ok f ∧ i < j ∧
    f.getD i 0 ≠ b ∧ f.getD j 0 ≠ c ∧ decodeFrame ((f.set i b).set j c) = .ok (tfi, q) ∧ q ≠ p) ∧
  ∀ (tfi : Byte) (p f : List Byte) (i : Nat) (b : Byte),
    encodeFrame tfi p = .ok f → i < f.length → f.getD i 0 ≠ b →
    (i < 3 → decodeFrame (f.set i b) = .err .badPreamble) ∧
    (3 ≤ i → i + 1 < f.length → decodeFrame (f.set i b) = .err .checksumMismatch) ∧
    (i + 1 = f.length → decodeFrame (f.set i b) = .ok (tfi, p))

/-- R99: neither constant is a prefix of a valid frame; each fails DECODE with ChecksumMismatch, and the first six bytes of
a valid frame are Neither. -/
def Obligations.AckNakAreNoFrames : Prop :=
  (∀ rest : List Byte,
    decodeFrame (ackFrame ++ rest) = .err .checksumMismatch ∧
      decodeFrame (nakFrame ++ rest) = .err .checksumMismatch) ∧
  (∀ (raw : List Byte) (tfi : Byte) (p : List Byte), decodeFrame raw = .ok (tfi, p) →
    ackMatch (raw.take 6) = .neither) ∧
  ackFrame.getD 3 0 ≠ nakFrame.getD 3 0 ∧ ackFrame.getD 4 0 ≠ nakFrame.getD 4 0

/-! ### Correlator, budgets -/

/-- R170: ACKMATCH compares all six bytes of ACKBUF and writes no register. -/
def Obligations.AckMatchComparesSixBytes : Prop :=
  ∀ s : State,
    (s.ackbuf = [0x00, 0x00, 0xFF, 0x00, 0xFF, 0x00] →
      exec .ackmatch s = .next { s with ret := .ackClass .ack }) ∧
    (s.ackbuf = [0x00, 0x00, 0xFF, 0xFF, 0x00, 0x00] →
      exec .ackmatch s = .next { s with ret := .ackClass .nak }) ∧
    (s.ackbuf ≠ [0x00, 0x00, 0xFF, 0x00, 0xFF, 0x00] → s.ackbuf ≠ [0x00, 0x00, 0xFF, 0xFF, 0x00, 0x00] →
      exec .ackmatch s = .next { s with ret := .ackClass .neither })

/-- R172, R173: EXPECT is the opcode plus one mod 256, and CORRELATE's four steps in order. -/
def Obligations.CorrelateAcceptsOnlyTheResponse : Prop :=
  ∀ (s : State) (tfi : Byte),
    (∃ b : Byte, exec .expect s = .next { s with ret := .byte b } ∧ b.toNat = (s.opcode.toNat + 1) % 256) ∧
    (tfi ≠ 0xD5 → ∀ p, exec (.correlate tfi p) s = .next { s with ret := .error .opcodeMismatch }) ∧
    exec (.correlate 0xD5 []) s = .next { s with ret := .error .truncated } ∧
    ∀ (tag : Byte) (data : List Byte),
      (tag.toNat ≠ (s.opcode.toNat + 1) % 256 →
        exec (.correlate 0xD5 (tag :: data)) s = .next { s with ret := .error .opcodeMismatch }) ∧
      (tag.toNat = (s.opcode.toNat + 1) % 256 →
        exec (.correlate 0xD5 (tag :: data)) s = .next { s with ret := .data data })

/-- R190: LIMIT writes min(M, ceil(T / I)) to POLLLIM. -/
def Obligations.LimitIsTheTighterBound : Prop :=
  ∀ (t : Word16) (s : State), ∃ l : Word16,
    exec (.limit t) s = .next { s with polllim := l } ∧
      l.toNat = min s.cfg.maxAttempts.toNat
        ((t.toNat + s.cfg.intervalMs.toNat - 1) / s.cfg.intervalMs.toNat) ∧
      (t = 0 → l = 0) ∧ (1 ≤ t.toNat → t.toNat ≤ s.cfg.intervalMs.toNat → l = 1)

/-- R191: SPLIT. -/
def Obligations.SplitPartitionsTheTimeout : Prop :=
  ∀ s : State,
    (s.tmode = .dual → exec .split s = .next { s with tack := s.t1, tresp := s.t2 }) ∧
    (s.tmode = .single → ∃ a r : Word16,
      exec .split s = .next { s with tack := a, tresp := r } ∧ a.toNat = s.t1.toNat / 2 ∧
        r.toNat = s.t1.toNat - s.t1.toNat / 2 ∧ a.toNat + r.toNat = s.t1.toNat)

/-! ### Polling -/

/-- R193, R194 (b), (c), R195: where the ready signal is not true in the attempts that are left, POLL takes exactly these,
each a sample and a sleep, and returns TimedOut; with none left it does nothing. It returns IsReady at the first sample that
is true, with the failed attempts before it counted. -/
def Obligations.PollOutcomes : Prop :=
  ∀ (s : State) (n : Nat) (quiet rest : List Answer), Quiet n quiet →
    (n = s.polllim.toNat - s.pollcnt.toNat → s.link.script = quiet ++ rest →
      exec .poll s = .next
        { s with
          pollcnt := s.pollcnt + BitVec.ofNat 16 n
          link := s.link.afterWait s.cfg.intervalMs.toNat n
          ret := .poll .timedOut }) ∧
    (n < s.polllim.toNat - s.pollcnt.toNat → ∀ r : Answer, s.link.script = quiet ++ r :: rest → Raised r →
      exec .poll s = .next
        { s with
          pollcnt := s.pollcnt + BitVec.ofNat 16 n
          link := (s.link.afterWait s.cfg.intervalMs.toNat n).afterRaised
          ret := .poll .isReady })

/-- R193, R227, R292: a fault of Ready or of Sleep in POLL is the failure entry with BusFault, nothing issued after it and no
other register changed but POLLCNT. The model's reading, in two points: the clock counts the Sleep that faulted (log entry
6), and where no request runs PHASE becomes Failed as inside one (log entry 19). -/
def Obligations.PollFaultIsBusFault : Prop :=
  ∀ (s : State) (n : Nat) (quiet rest : List Answer) (r z : Answer),
    n < s.polllim.toNat - s.pollcnt.toNat → Quiet n quiet →
    (s.link.script = quiet ++ r :: rest → r.fault = true →
      ∃ t : State, exec .poll s = .next t ∧
        t = { s with
          status := .error .busFault, rdata := [], awake := false, phase := .failed
          pollcnt := s.pollcnt + BitVec.ofNat 16 n, link := t.link } ∧
        t.link.trace = s.link.trace ++ waitEvents s.cfg.intervalMs.toNat n ++ [.ready none]) ∧
    (s.link.script = quiet ++ r :: z :: rest → r.fault = false → r.level = false → z.fault = true →
      ∃ t : State, exec .poll s = .next t ∧
        t = { s with
          status := .error .busFault, rdata := [], awake := false, phase := .failed
          pollcnt := s.pollcnt + BitVec.ofNat 16 n, link := t.link } ∧
        t.link.trace = s.link.trace ++ waitEvents s.cfg.intervalMs.toNat n ++
          [.ready (some false), .sleep s.cfg.intervalMs.toNat false] ∧
        t.link.elapsedMs = s.link.elapsedMs + (n + 1) * s.cfg.intervalMs.toNat)

/-- R194 (a): whatever the environment answers, POLL ends, with at most the attempts that are left as samples and as
sleeps. Where no primitive faulted it changes no register but POLLCNT; where one did, the failure entry's registers hold
BusFault's values and nothing else changes. Premise of the model: every primitive returns (R337, log entry 13). The
failure entry in a state where no request runs is the model's reading (log entry 19). -/
def Obligations.PollIsBoundedAlways : Prop :=
  ∀ s : State, ∃ (t : State) (es : List Event),
    exec .poll s = .next t ∧ t.link.trace = s.link.trace ++ es ∧
      es.countP isReadyCall ≤ s.polllim.toNat - s.pollcnt.toNat ∧
      es.countP isSleepCall ≤ s.polllim.toNat - s.pollcnt.toNat ∧
      es.length ≤ 2 * (s.polllim.toNat - s.pollcnt.toNat) ∧
      ((∀ e ∈ es, isFault e = false) →
        t = { s with pollcnt := t.pollcnt, link := t.link, ret := t.ret }) ∧
      ((∃ e ∈ es, isFault e = true) →
        t = { s with
          status := .error .busFault, rdata := [], awake := false, phase := .failed
          pollcnt := t.pollcnt, link := t.link })

/-! ### Link operations and wake-up -/

/-- R196, R211, R212, R213: without a fault the four link operations are one bracket each, with these bytes sent and these
registers written. -/
def Obligations.LinkOperationsAreOneBracket : Prop :=
  ∀ (s : State) (bytes : List Byte) (as rest : List Answer), s.link.script = as ++ rest → Hands bytes as →
    (∃ rx, rx.length = s.cfg.wakeSeq.length ∧
      exec .wakeStep s = .next { s with awake := true, link := s.link.afterBracket s.cfg.wakeSeq rx }) ∧
    (∃ rx, rx.length = s.txbuf.length ∧
      exec .sendframe s = .next { s with link := s.link.afterBracket s.txbuf rx }) ∧
    (bytes.length = 6 →
      exec .readack s = .next
        { s with ackbuf := bytes, link := s.link.afterBracket (List.replicate 6 s.cfg.txFill) bytes }) ∧
    (bytes.length = s.cfg.rxCount.toNat →
      exec .readresp s = .next
        { s with
          rxbuf := bytes
          link := s.link.afterBracket (List.replicate s.cfg.rxCount.toNat s.cfg.txFill) bytes })

/-- R227, R292, R331: a fault in a link operation is the failure entry with BusFault at once, and no other register changes
but a buffer whose bytes were received before it, which then holds them; the primitives before it are the only ones issued,
and where the Exchange faulted SEL stays asserted. The failure entry in a state where no request runs is the model's reading
(log entry 19). -/
def Obligations.LinkFaultStopsAtOnce : Prop :=
  ∀ (i : Instr) (tx : List Byte) (s : State) (x y z : Answer) (rest : List Answer),
    (i = .wakeStep ∧ tx = s.cfg.wakeSeq) ∨ (i = .sendframe ∧ tx = s.txbuf) ∨
      (i = .readack ∧ tx = List.replicate 6 s.cfg.txFill) ∨
      (i = .readresp ∧ tx = List.replicate s.cfg.rxCount.toNat s.cfg.txFill) →
    s.link.script = x :: y :: z :: rest →
    (x.fault = true ∨ y.fault = true ∨ z.fault = true) →
    ∃ t : State, exec i s = .next t ∧
      t = { s with
        status := .error .busFault, rdata := [], awake := false, phase := .failed
        ackbuf := t.ackbuf, rxbuf := t.rxbuf, link := t.link } ∧
      (i ≠ .readack → t.ackbuf = s.ackbuf) ∧ (i ≠ .readresp → t.rxbuf = s.rxbuf) ∧
      (x.fault = true ∨ y.fault = true → t.ackbuf = s.ackbuf ∧ t.rxbuf = s.rxbuf) ∧
      (x.fault = true → t.link.trace = s.link.trace ++ [.select true false]) ∧
      (x.fault = false → y.fault = true →
        t.link.trace = s.link.trace ++ [.select true true, .exchange tx none] ∧ t.link.sel = true) ∧
      (x.fault = false → y.fault = false →
        ∃ rx, rx.length = tx.length ∧
          t.link.trace = s.link.trace ++ [.select true true, .exchange tx (some rx), .select false false] ∧
          (i = .readack → t.ackbuf = rx) ∧ (i = .readresp → t.rxbuf = rx))

/-- R198: WAKE in Idle sends the wake-up whatever AWAKE holds; a fault leaves PHASE Idle and clears AWAKE; outside
Idle it is refused. -/
def Obligations.WakeHostOperation : Prop :=
  ∀ s : State,
    (s.phase = .idle → ∀ (bytes : List Byte) (as rest : List Answer), s.link.script = as ++ rest → Hands bytes as →
      ∃ rx, rx.length = s.cfg.wakeSeq.length ∧
        exec .wake s = .next
          { s with
            status := .ok, rdata := [], awake := true, link := s.link.afterBracket s.cfg.wakeSeq rx }) ∧
    (s.phase = .idle → ∀ (x y z : Answer) (rest : List Answer), s.link.script = x :: y :: z :: rest →
      (x.fault = true ∨ y.fault = true ∨ z.fault = true) →
      ∃ t : State, exec .wake s = .next t ∧
        t = { s with status := .error .busFault, rdata := [], awake := false, link := t.link }) ∧
    (s.phase ≠ .idle → exec .wake s = .refused .busy)

/-! ### REQUEST -/

/-- R216, R281, R134: too many arguments fail at S0, before any primitive, with AWAKE unchanged. -/
def Obligations.RequestTooLargeTouchesNothing : Prop :=
  ∀ s : State, s.phase = .idle → 254 ≤ s.args.length →
    exec .request s = .next
      { s with
        tack := (splitBudgets s.tmode s.t1 s.t2).1
        tresp := (splitBudgets s.tmode s.t1 s.t2).2
        status := .error .payloadTooLarge
        rdata := [] }

/-- R228, R214: the state and the transport trace of a request that succeeds with no Neither read before the ACK. -/
def Obligations.RequestSuccess : Prop :=
  ∀ (s : State) (w f a1 a2 q1 q2 rest : List Answer) (r1 r2 : Answer) (fb raw data : List Byte) (n m : Nat)
    (ta tr : Word16),
    s.phase = .idle → s.args.length ≤ 253 → (ta, tr) = splitBudgets s.tmode s.t1 s.t2 →
    s.link.script = w ++ (f ++ (q1 ++ r1 :: (a1 ++ (q2 ++ r2 :: (a2 ++ rest))))) →
    (s.awake = true → w = []) → (s.awake = false → ∃ wb, Hands wb w) → Hands fb f →
    Quiet n q1 → n < (limit s.cfg ta).toNat → Raised r1 → Hands ackFrame a1 →
    Quiet m q2 → m < (limit s.cfg tr).toNat → Raised r2 → Hands raw a2 →
    raw.length = s.cfg.rxCount.toNat → decodeFrame raw = .ok (0xD5, (s.opcode + 1) :: data) →
    ∃ wrx frx : List Byte,
      exec .request s = .next
        { s with
          tack := ta, tresp := tr, txbuf := wireFrame 0xD4 (s.opcode :: s.args), ackbuf := ackFrame, rxbuf := raw
          pollcnt := BitVec.ofNat 16 m, polllim := limit s.cfg tr, awake := true, status := .ok, rdata := data
          link :=
            { sel := false
              elapsedMs := s.link.elapsedMs + (n + m) * s.cfg.intervalMs.toNat
              script := rest
              calls := s.link.calls + (if s.awake then 0 else 3) + 11 + 2 * (n + m)
              trace := s.link.trace ++ (if s.awake then [] else bracketEvents s.cfg.wakeSeq wrx) ++
                bracketEvents (wireFrame 0xD4 (s.opcode :: s.args)) frx ++
                waitEvents s.cfg.intervalMs.toNat n ++ [.ready (some true)] ++
                bracketEvents (List.replicate 6 s.cfg.txFill) ackFrame ++
                waitEvents s.cfg.intervalMs.toNat m ++ [.ready (some true)] ++
                bracketEvents (List.replicate s.cfg.rxCount.toNat s.cfg.txFill) raw } }

/-- R230, R286, R293: a NAK read in the ACK wait ends the request with NakReceived, AWAKE kept, and no response read. -/
def Obligations.RequestNak : Prop :=
  ∀ (s : State) (w f a1 q1 rest : List Answer) (r1 : Answer) (fb : List Byte) (n : Nat) (ta tr : Word16),
    s.phase = .idle → s.args.length ≤ 253 → (ta, tr) = splitBudgets s.tmode s.t1 s.t2 →
    s.link.script = w ++ (f ++ (q1 ++ r1 :: (a1 ++ rest))) →
    (s.awake = true → w = []) → (s.awake = false → ∃ wb, Hands wb w) → Hands fb f →
    Quiet n q1 → n < (limit s.cfg ta).toNat → Raised r1 → Hands nakFrame a1 →
    ∃ (wrx frx : List Byte) (t : State),
      exec .request s = .next t ∧ t.status = .error .nakReceived ∧ t.rdata = [] ∧ t.awake = true ∧
        t.phase = .idle ∧ t.pollcnt = BitVec.ofNat 16 n ∧ t.polllim = limit s.cfg ta ∧ t.rxbuf = s.rxbuf ∧
        t.link.sel = false ∧ t.link.script = rest ∧
        t.link.elapsedMs = s.link.elapsedMs + n * s.cfg.intervalMs.toNat ∧
        t.link.trace = s.link.trace ++ (if s.awake then [] else bracketEvents s.cfg.wakeSeq wrx) ++
          bracketEvents (wireFrame 0xD4 (s.opcode :: s.args)) frx ++
          waitEvents s.cfg.intervalMs.toNat n ++ [.ready (some true)] ++
          bracketEvents (List.replicate 6 s.cfg.txFill) nakFrame

/-- R336: with the ready signal never true and no fault a request ends with AckTimeout after LIMIT(TACK) samples
and sleeps, without an ACK read or a response read; where the attempt bound does not cut it short, the time is at least the
budget and less than one interval above it. -/
def Obligations.RequestAckTimeout : Prop :=
  ∀ (s : State) (w f q rest : List Answer) (fb : List Byte) (n : Nat) (ta tr : Word16),
    s.phase = .idle → s.args.length ≤ 253 → (ta, tr) = splitBudgets s.tmode s.t1 s.t2 →
    s.link.script = w ++ (f ++ (q ++ rest)) →
    (s.awake = true → w = []) → (s.awake = false → ∃ wb, Hands wb w) → Hands fb f →
    n = (limit s.cfg ta).toNat → Quiet n q →
    ∃ (wrx frx : List Byte) (t : State),
      exec .request s = .next t ∧ t.status = .error .ackTimeout ∧ t.rdata = [] ∧ t.awake = false ∧
        t.phase = .idle ∧ t.pollcnt = limit s.cfg ta ∧ t.polllim = limit s.cfg ta ∧
        t.ackbuf = s.ackbuf ∧ t.rxbuf = s.rxbuf ∧ t.link.sel = false ∧
        t.link.elapsedMs = s.link.elapsedMs + n * s.cfg.intervalMs.toNat ∧
        t.link.trace = s.link.trace ++ (if s.awake then [] else bracketEvents s.cfg.wakeSeq wrx) ++
          bracketEvents (wireFrame 0xD4 (s.opcode :: s.args)) frx ++ waitEvents s.cfg.intervalMs.toNat n ∧
        ((ta.toNat + s.cfg.intervalMs.toNat - 1) / s.cfg.intervalMs.toNat ≤ s.cfg.maxAttempts.toNat →
          ta.toNat ≤ n * s.cfg.intervalMs.toNat ∧ n * s.cfg.intervalMs.toNat < ta.toNat + s.cfg.intervalMs.toNat)

/-- R288, R293, R223: after the ACK, with the ready signal never true again, a request ends with ResponseTimeout and no
response read. -/
def Obligations.RequestResponseTimeout : Prop :=
  ∀ (s : State) (w f a1 q1 q2 rest : List Answer) (r1 : Answer) (fb : List Byte) (n m : Nat) (ta tr : Word16),
    s.phase = .idle → s.args.length ≤ 253 → (ta, tr) = splitBudgets s.tmode s.t1 s.t2 →
    s.link.script = w ++ (f ++ (q1 ++ r1 :: (a1 ++ (q2 ++ rest)))) →
    (s.awake = true → w = []) → (s.awake = false → ∃ wb, Hands wb w) → Hands fb f →
    Quiet n q1 → n < (limit s.cfg ta).toNat → Raised r1 → Hands ackFrame a1 →
    m = (limit s.cfg tr).toNat → Quiet m q2 →
    ∃ (wrx frx : List Byte) (t : State),
      exec .request s = .next t ∧ t.status = .error .responseTimeout ∧ t.rdata = [] ∧ t.awake = false ∧
        t.phase = .idle ∧ t.pollcnt = limit s.cfg tr ∧ t.polllim = limit s.cfg tr ∧ t.rxbuf = s.rxbuf ∧
        t.link.sel = false ∧ t.link.elapsedMs = s.link.elapsedMs + (n + m) * s.cfg.intervalMs.toNat ∧
        t.link.trace = s.link.trace ++ (if s.awake then [] else bracketEvents s.cfg.wakeSeq wrx) ++
          bracketEvents (wireFrame 0xD4 (s.opcode :: s.args)) frx ++
          waitEvents s.cfg.intervalMs.toNat n ++ [.ready (some true)] ++
          bracketEvents (List.replicate 6 s.cfg.txFill) ackFrame ++ waitEvents s.cfg.intervalMs.toNat m

/-- R230, R30, R293: whatever the environment answers, a request accepted in Idle ends in Idle with exactly one outcome of
codes 1 to 10, RLEN is 0 on every failure, and AWAKE is 1 after OK and NakReceived, unchanged after PayloadTooLarge and 0
after every other error. Premise of the model: every primitive returns (R337, log entry 13). -/
def Obligations.RequestAlwaysEnds : Prop :=
  ∀ s : State, s.phase = .idle →
    ∃ t : State, exec .request s = .next t ∧ t.phase = .idle ∧ 1 ≤ t.status.code.toNat ∧
      t.status.code.toNat ≤ 10 ∧ (t.status ≠ .ok → t.rdata = []) ∧
      (t.status = .ok ∨ t.status = .error .nakReceived → t.awake = true) ∧
      (t.status = .error .payloadTooLarge → t.awake = s.awake) ∧
      (t.status ≠ .ok → t.status ≠ .error .nakReceived → t.status ≠ .error .payloadTooLarge → t.awake = false)

/-- R229, R335: the bound on primitives and on sleep of one request, whatever the environment answers; its time is the
interval times its sleeps, less than the two budgets and two intervals, and with a single timeout less than that timeout
and two intervals. That a Sleep which faulted counts is the model's reading of R34 (log entry 6), and
that every primitive returns is its premise (R337, log entry 13). -/
def Obligations.RequestIsBounded : Prop :=
  ∀ (s : State) (ta tr : Word16), s.phase = .idle → (ta, tr) = splitBudgets s.tmode s.t1 s.t2 →
    ∃ (t : State) (es : List Event), exec .request s = .next t ∧ t.link.trace = s.link.trace ++ es ∧
      es.length ≤ 8 + 5 * (limit s.cfg ta).toNat + 2 * (limit s.cfg tr).toNat ∧
      t.link.elapsedMs = s.link.elapsedMs +
        s.cfg.intervalMs.toNat * es.countP isSleepCall ∧
      t.link.elapsedMs ≤
        s.link.elapsedMs + ((limit s.cfg ta).toNat + (limit s.cfg tr).toNat) * s.cfg.intervalMs.toNat ∧
      t.link.elapsedMs < s.link.elapsedMs + ta.toNat + tr.toNat + 2 * s.cfg.intervalMs.toNat ∧
      (s.tmode = .single → t.link.elapsedMs < s.link.elapsedMs + s.t1.toNat + 2 * s.cfg.intervalMs.toNat)

/-- R225, statement 8 of 95_test_vectors.md section 4: OK means that the last exchange returned a frame from the chip whose
tag is EXPECT(OPCODE) and whose response data RDATA holds. -/
def Obligations.OkMeansMatchingResponse : Prop :=
  ∀ s t : State, exec .request s = .next t → t.status = .ok →
    ∃ (es : List Event) (raw : List Byte),
      t.link.trace = s.link.trace ++ es ++
        bracketEvents (List.replicate s.cfg.rxCount.toNat s.cfg.txFill) raw ∧
      raw.length = s.cfg.rxCount.toNat ∧ t.rxbuf = raw ∧
      decodeFrame raw = .ok (0xD5, (s.opcode + 1) :: t.rdata)

/-- R231, R217, statement 10 of 95_test_vectors.md section 4: whatever its outcome, the exchanges of a request are, as far
as they go, the wake-up where AWAKE was 0, the command frame once, some ACK reads and one response read, and no others.
Without a fault and with legal arguments the wake-up (exactly when AWAKE was 0) and the frame have been sent in full, and a
response is read at most once. -/
def Obligations.FrameWrittenOnceNoRetry : Prop :=
  ∀ s t : State, exec .request s = .next t →
    (∃ (es : List Event) (n : Nat), t.link.trace = s.link.trace ++ es ∧
      sentBytes es <+: (if s.awake then [] else [s.cfg.wakeSeq]) ++ wireFrame 0xD4 (s.opcode :: s.args) ::
        (List.replicate n (List.replicate 6 s.cfg.txFill) ++ [List.replicate s.cfg.rxCount.toNat s.cfg.txFill])) ∧
    (s.args.length ≤ 253 → t.status ≠ .error .busFault → ∃ (wrx frx : List Byte) (es : List Event),
      t.link.trace = s.link.trace ++ (if s.awake then [] else bracketEvents s.cfg.wakeSeq wrx) ++
        bracketEvents (wireFrame 0xD4 (s.opcode :: s.args)) frx ++ es ∧
      (∀ tx rx, Event.exchange tx rx ∈ es →
        tx = List.replicate 6 s.cfg.txFill ∨ tx = List.replicate s.cfg.rxCount.toNat s.cfg.txFill) ∧
      es.countP (isExchangeOf s.cfg.rxCount.toNat) ≤ 1)

/-- R227, R289: a request ends with BusFault exactly when a primitive faulted, and the fault is the last primitive it
issued. -/
def Obligations.BusFaultIsImmediate : Prop :=
  ∀ s t : State, exec .request s = .next t →
    ∃ es : List Event, t.link.trace = s.link.trace ++ es ∧
      ((t.status = .error .busFault ∧ ∃ before e, es = before ++ [e] ∧ isFault e = true ∧
          ∀ b ∈ before, isFault b = false) ∨
        (t.status ≠ .error .busFault ∧ ∀ b ∈ es, isFault b = false))

/-- R38: a request changes no register but those of R22 it computes, the sequencer, AWAKE and the results. -/
def Obligations.RequestFrame : Prop :=
  ∀ s t : State, exec .request s = .next t →
    t = { s with
      tack := t.tack, tresp := t.tresp, txbuf := t.txbuf, ackbuf := t.ackbuf, rxbuf := t.rxbuf
      pollcnt := t.pollcnt, polllim := t.polllim, awake := t.awake, status := t.status, rdata := t.rdata
      link := t.link }

/-- R35, R230: the outcome of a request is a function of the request registers, AWAKE, the configuration and the
environment: two states that agree on those end alike, whatever stale values the other registers hold; in SINGLE mode T2
does not matter. -/
def Obligations.RequestIgnoresStaleRegisters : Prop :=
  ∀ s u : State, s.phase = .idle → u.phase = .idle → s.cfg = u.cfg → s.opcode = u.opcode → s.args = u.args →
    s.tmode = u.tmode → s.t1 = u.t1 → (s.tmode = .dual → s.t2 = u.t2) → s.awake = u.awake → s.link = u.link →
    ∃ t v : State, exec .request s = .next t ∧ exec .request u = .next v ∧ t.status = v.status ∧
      t.rdata = v.rdata ∧ t.awake = v.awake ∧ t.phase = v.phase ∧ t.link = v.link

/-- R215: the procedure of R214 and the phase transitions of R216 to R226 are one machine: from the state S0 and S1 leave,
stepping until Idle gives what REQUEST gives at once, and every state before is busy. -/
def Obligations.ProcedureEqualsTransitions : Prop :=
  ∀ s : State, s.phase = .idle →
    ∃ n : Nat,
      exec .request s = Sys2Proof.core.run n (settle (startRequest s)) ∧
        ∀ k : Nat, k < n → ∃ u : State, Sys2Proof.core.run k (settle (startRequest s)) = .next u ∧ u.phase ≠ .idle

/-! ### The phase transitions -/

/-- R218, R219, R226: the transitions out of WokenUp, FrameSent, Done and Failed. -/
def Obligations.PlainTransitions : Prop :=
  ∀ s : State,
    (s.phase = .wokenUp → ∀ (b : List Byte) (as rest : List Answer), s.link.script = as ++ rest → Hands b as →
      ∃ rx, rx.length = s.txbuf.length ∧
        step s = .next { s with phase := .frameSent, link := s.link.afterBracket s.txbuf rx }) ∧
    (s.phase = .frameSent →
      step s = .next { s with pollcnt := 0, polllim := limit s.cfg s.tack, phase := .awaitingAck }) ∧
    (s.phase = .done ∨ s.phase = .failed → step s = .next { s with phase := .idle })

/-- R220, R223: a wait whose bound is reached fails with its timeout, without a sample. -/
def Obligations.BoundReachedTimesOut : Prop :=
  ∀ s : State, s.polllim.toNat ≤ s.pollcnt.toNat →
    (s.phase = .awaitingAck →
      step s = .next
        { s with status := .error .ackTimeout, rdata := [], awake := false, phase := .failed }) ∧
    (s.phase = .awaitingResponse →
      step s = .next
        { s with status := .error .responseTimeout, rdata := [], awake := false, phase := .failed })

/-- R221, R224: an attempt that is not ready sleeps one interval and counts. -/
def Obligations.NotReadySleepsAndCounts : Prop :=
  ∀ (s : State) (q rest : List Answer), s.phase = .awaitingAck ∨ s.phase = .awaitingResponse →
    s.pollcnt.toNat < s.polllim.toNat → s.link.script = q ++ rest → Quiet 1 q →
    step s = .next
      { s with pollcnt := s.pollcnt + 1, link := s.link.afterWait s.cfg.intervalMs.toNat 1 }

/-- R222: an attempt of the ACK wait that is ready reads six bytes; ACK opens the response wait, NAK fails, anything else
sleeps one interval and counts. -/
def Obligations.AckWaitReady : Prop :=
  ∀ (s : State) (r : Answer) (a rest : List Answer) (b : List Byte) (l : Link), s.phase = .awaitingAck →
    s.pollcnt.toNat < s.polllim.toNat → s.link.script = r :: (a ++ rest) → Raised r → Hands b a → b.length = 6 →
    l = s.link.afterRaised.afterBracket (List.replicate 6 s.cfg.txFill) b →
    (b = [0x00, 0x00, 0xFF, 0x00, 0xFF, 0x00] →
      step s = .next
        { s with
          ackbuf := b, pollcnt := 0, polllim := limit s.cfg s.tresp, phase := .awaitingResponse, link := l }) ∧
    (b = [0x00, 0x00, 0xFF, 0xFF, 0x00, 0x00] →
      step s = .next
        { s with ackbuf := b, status := .error .nakReceived, rdata := [], phase := .failed, link := l }) ∧
    (b ≠ [0x00, 0x00, 0xFF, 0x00, 0xFF, 0x00] → b ≠ [0x00, 0x00, 0xFF, 0xFF, 0x00, 0x00] →
      ∀ (z : Answer) (rest' : List Answer), rest = z :: rest' → z.fault = false →
      step s = .next
        { s with
          ackbuf := b, pollcnt := s.pollcnt + 1
          link :=
            { l with
              elapsedMs := l.elapsedMs + s.cfg.intervalMs.toNat, script := rest', calls := l.calls + 1
              trace := l.trace ++ [.sleep s.cfg.intervalMs.toNat true] } })

/-- R225: an attempt of the response wait that is ready reads RX_COUNT bytes once and ends the request: Done with the data,
or Failed with DECODE's or CORRELATE's error. -/
def Obligations.ResponseWaitReady : Prop :=
  ∀ (s : State) (r : Answer) (a rest : List Answer) (b : List Byte) (l : Link), s.phase = .awaitingResponse →
    s.pollcnt.toNat < s.polllim.toNat → s.link.script = r :: (a ++ rest) → Raised r → Hands b a →
    b.length = s.cfg.rxCount.toNat →
    l = s.link.afterRaised.afterBracket (List.replicate s.cfg.rxCount.toNat s.cfg.txFill) b →
    (∀ e, decodeFrame b = .err e →
      step s = .next
        { s with rxbuf := b, status := .error e, rdata := [], awake := false, phase := .failed, link := l }) ∧
    (∀ tfi p e, decodeFrame b = .ok (tfi, p) → correlate s.opcode tfi p = .err e →
      step s = .next
        { s with rxbuf := b, status := .error e, rdata := [], awake := false, phase := .failed, link := l }) ∧
    (∀ tfi p d, decodeFrame b = .ok (tfi, p) → correlate s.opcode tfi p = .ok d →
      step s = .next { s with rxbuf := b, status := .ok, rdata := d, phase := .done, link := l })

/-! ### The wire rows -/

/-- R93, R94, R100, R222: what the block does with an ACK and a NAK it has read, by phase. -/
def Obligations.AckAndNakByPhase : Prop :=
  ∀ s : State,
    (s.phase = .awaitingAck →
      exec .ack s = .next
        { s with pollcnt := 0, polllim := limit s.cfg s.tresp, phase := .awaitingResponse } ∧
      exec .nak s = .next { s with status := .error .nakReceived, rdata := [], phase := .failed }) ∧
    (s.phase = .awaitingResponse → ∀ i : Instr, i = .ack ∨ i = .nak →
      exec i s = .next
        { s with status := .error .checksumMismatch, rdata := [], awake := false, phase := .failed }) ∧
    (s.phase ≠ .awaitingAck → s.phase ≠ .awaitingResponse → ∀ i : Instr, i = .ack ∨ i = .nak → exec i s = .next s)

/-- R98, R100, R173, R222, R225: what the block does with an information frame it has read, by phase. In the ACK wait it is
Neither: a sleep that does not fault, one attempt counted. -/
def Obligations.InformationFrameByPhase : Prop :=
  ∀ (s : State) (tfi tag : Byte) (p data : List Byte),
    (s.phase = .awaitingResponse →
      (tfi ≠ 0xD5 →
        exec (.info tfi p) s = .next
          { s with status := .error .opcodeMismatch, rdata := [], awake := false, phase := .failed }) ∧
      exec (.info 0xD5 []) s = .next
        { s with status := .error .truncated, rdata := [], awake := false, phase := .failed } ∧
      (tag ≠ s.opcode + 1 → ∀ i : Instr, i = .infoRsp tag data ∨ i = .info 0xD5 (tag :: data) →
        exec i s = .next
          { s with status := .error .opcodeMismatch, rdata := [], awake := false, phase := .failed }) ∧
      (tag = s.opcode + 1 → ∀ i : Instr, i = .infoRsp tag data ∨ i = .info 0xD5 (tag :: data) →
        exec i s = .next { s with status := .ok, rdata := data, phase := .done })) ∧
    (s.phase = .awaitingAck → ∀ (z : Answer) (rest : List Answer), s.link.script = z :: rest → z.fault = false →
      ∀ i : Instr, i = .infoRsp tag data ∨ i = .info tfi p →
      exec i s = .next
        { s with
          pollcnt := s.pollcnt + 1
          link :=
            { s.link with
              elapsedMs := s.link.elapsedMs + s.cfg.intervalMs.toNat, script := rest, calls := s.link.calls + 1
              trace := s.link.trace ++ [.sleep s.cfg.intervalMs.toNat true] } }) ∧
    (s.phase ≠ .awaitingAck → s.phase ≠ .awaitingResponse →
      ∀ i : Instr, i = .infoRsp tag data ∨ i = .info tfi p → exec i s = .next s)

/-- R98, R218, R101, R196: INFO.CMD in WokenUp writes the command frame in one bracket and PHASE is FrameSent; WAKEUP in Idle
sends the wake-up sequence and sets AWAKE, which is the model's reading of that row (log entry 20); in other phases the
block writes neither (log entry 9). -/
def Obligations.SentRowsByPhase : Prop :=
  ∀ (s : State) (op : Byte) (args : List Byte),
    (s.phase = .wokenUp → args.length ≤ 253 →
      ∀ (b : List Byte) (as rest : List Answer), s.link.script = as ++ rest → Hands b as →
      ∃ rx, rx.length = args.length + 9 ∧
        exec (.infoCmd op args) s = .next
          { s with
            txbuf := wireFrame 0xD4 (op :: args), phase := .frameSent
            link := s.link.afterBracket (wireFrame 0xD4 (op :: args)) rx }) ∧
    (s.phase ≠ .wokenUp → exec (.infoCmd op args) s = .next s) ∧
    (s.phase = .idle →
      ∀ (b : List Byte) (as rest : List Answer), s.link.script = as ++ rest → Hands b as →
      ∃ rx, rx.length = s.cfg.wakeSeq.length ∧
        exec .wakeup s = .next { s with awake := true, link := s.link.afterBracket s.cfg.wakeSeq rx }) ∧
    (s.phase ≠ .idle → exec .wakeup s = .next s)

/-! ### The Command Layer -/

/-- R262, R263, R261: GetFirmwareVersion is one REQUEST without arguments; four bytes are parsed, any engine error is the
cause of ChipNotResponding. -/
def Obligations.GetFirmwareVersionParses : Prop :=
  ∀ (tm : Timeout) (s : State), s.phase = .idle →
    ∃ t : State, exec .request (requestOperands s.layer.opGetFirmwareVersion [] tm s) = .next t ∧
      exec (.getFirmwareVersion tm) s = .next
        { t with
          ret :=
            match t.status with
            | .error e => .chipNotResponding e
            | _ =>
              if t.rdata.length < 4 then .error .truncated
              else .firmware (t.rdata.getD 0 0) (t.rdata.getD 1 0) (t.rdata.getD 2 0) (t.rdata.getD 3 0) }

/-- R264: SAMConfiguration is one REQUEST with the mode, the timeout byte and the IRQ flag; its data is not looked at. -/
def Obligations.SamConfigurationIgnoresData : Prop :=
  ∀ (mode : SamMode) (b m : Byte) (irq : Bool) (tm : Timeout) (s : State), s.phase = .idle →
    (mode = .normal ∧ m = s.layer.samNormal) ∨ (mode = .virtualCard ∧ m = s.layer.samVirtual) ∨
      (mode = .wiredCard ∧ m = s.layer.samWired) ∨ (mode = .dualCard ∧ m = s.layer.samDual) →
    ∃ t : State,
      exec .request
        (requestOperands s.layer.opSamConfiguration [m, b, if irq then 0x01 else 0x00] tm s) = .next t ∧
      exec (.samConfiguration mode b irq tm) s = .next
        { t with ret := match t.status with | .error e => .error e | _ => .unit }

/-- R265, R266, R267: ReadPassiveTarget is one REQUEST with 0x01 and the profile; its data is parsed by fixed offsets, and
TargetNotFound comes from the indicator alone, never from a timeout. -/
def Obligations.ReadPassiveTargetParses : Prop :=
  ∀ (profile : Byte) (tm : Timeout) (s : State), s.phase = .idle →
    ∃ t : State, exec .request (requestOperands s.layer.opInListPassiveTarget [0x01, profile] tm s) = .next t ∧
      exec (.readPassiveTarget profile tm) s = .next
        { t with
          ret :=
            match t.status, t.rdata with
            | .error e, _ => .error e
            | _, [] => .error .truncated
            | _, c :: rest =>
              if c = s.layer.notFoundCount then .targetNotFound
              else if rest.length < 5 then .error .truncated
              else if rest.length < 5 + (rest.getD 4 0).toNat then .error .truncated
              else .uid ((rest.drop 5).take (rest.getD 4 0).toNat) }

/-- R268, R260: InDataExchange is one REQUEST with the given arguments; data and errors are returned as they are. -/
def Obligations.InDataExchangeReturnsData : Prop :=
  ∀ (args : List Byte) (tm : Timeout) (s : State), s.phase = .idle →
    ∃ t : State, exec .request (requestOperands s.layer.opInDataExchange args tm s) = .next t ∧
      exec (.inDataExchange args tm) s = .next
        { t with ret := match t.status with | .error e => .error e | _ => .data t.rdata }

/-! ### The step and the host -/

/-- A step executes the instruction that its bytes decode to: the byte at the operation port in Idle, the six bytes read in
the ACK wait, the frame read in the response wait; and a host call in Idle its operation, where a call of a row that is no
Command Layer operation is refused (the model's choice, log entry 11). -/
def Obligations.StepRunsDecodedInstruction : Prop :=
  ∀ s : State,
    (∀ (b : Byte) (q : List HostMove) (i : Instr) (r : List Byte), s.phase = .idle → s.hostq = .command b :: q →
      decode .hostPort [b] = .ok i r → step s = exec i { s with hostq := q }) ∧
    (∀ (i : Instr) (q : List HostMove), s.phase = .idle → s.hostq = .call i :: q →
      (isPseudo i = true → step s = exec i { s with hostq := q }) ∧
      (isPseudo i = false → step s = .refused .notAHostCall)) ∧
    (∀ (t u : State) (i : Instr) (r : List Byte), s.phase = .awaitingAck → s.pollcnt.toNat < s.polllim.toNat →
      ready s = .ok true t → readAck t = .ok () u → decode .toHost u.ackbuf = .ok i r → i = .ack ∨ i = .nak →
      step s = exec i u) ∧
    (∀ (t u : State) (tfi : Byte) (p : List Byte), s.phase = .awaitingResponse →
      s.pollcnt.toNat < s.polllim.toNat → ready s = .ok true t → readResp t = .ok () u →
      decodeFrame u.rxbuf = .ok (tfi, p) → step s = exec (receivedFrame tfi p) u)

/-- R104: the selector values, and that every other command byte is refused: no step, no register changed. -/
def Obligations.SelectorsAndReservedBytes : Prop :=
  ∀ (s : State) (q : List HostMove) (b : Byte), s.phase = .idle → s.hostq = .command b :: q →
    (b = 1 → step s = exec .encode { s with hostq := q }) ∧
    (b = 2 → step s = exec .decode { s with hostq := q }) ∧
    (b = 3 → step s = exec .request { s with hostq := q }) ∧
    (b = 4 → step s = exec .wake { s with hostq := q }) ∧
    (b ≠ 1 → b ≠ 2 → b ≠ 3 → b ≠ 4 → step s = .refused .reservedSelector)

/-- R22, R105: a host write changes its operand register and the mark of that register, nothing else. -/
def Obligations.HostWritesOneRegister : Prop :=
  ∀ (s : State) (q : List HostMove) (b : Byte) (bs : List Byte) (m : TMode) (v : Word16), s.phase = .idle →
    (s.hostq = .write (.opcode b) :: q →
      step s = .next { s with hostq := q, opcode := b, written := { s.written with opcode := true } }) ∧
    (s.hostq = .write (.args bs) :: q →
      step s = .next { s with hostq := q, args := bs, written := { s.written with args := true } }) ∧
    (s.hostq = .write (.tmode m) :: q →
      step s = .next { s with hostq := q, tmode := m, written := { s.written with tmode := true } }) ∧
    (s.hostq = .write (.t1 v) :: q →
      step s = .next { s with hostq := q, t1 := v, written := { s.written with t1 := true } }) ∧
    (s.hostq = .write (.t2 v) :: q →
      step s = .next { s with hostq := q, t2 := v, written := { s.written with t2 := true } }) ∧
    (s.hostq = .write (.cinTfi b) :: q →
      step s = .next { s with hostq := q, cinTfi := b, written := { s.written with cinTfi := true } }) ∧
    (s.hostq = .write (.cin bs) :: q →
      step s = .next { s with hostq := q, cin := bs, written := { s.written with cin := true } }) ∧
    (s.hostq = .write (.din bs) :: q →
      step s = .next { s with hostq := q, din := bs, written := { s.written with din := true } })

/-- R28, R328, U1, U12: while PHASE is not Idle the host has no move: a step leaves its queue and every register it writes
alone, and an operation that uses the engine is refused. -/
def Obligations.BusyGivesHostNoMove : Prop :=
  ∀ s : State, s.phase ≠ .idle →
    (∃ t : State, step s = .next t ∧ t.hostq = s.hostq ∧ t.written = s.written ∧ t.opcode = s.opcode ∧
      t.args = s.args ∧ t.tmode = s.tmode ∧ t.t1 = s.t1 ∧ t.t2 = s.t2 ∧ t.cinTfi = s.cinTfi ∧ t.cin = s.cin ∧
      t.din = s.din) ∧
    ∀ i : Instr, i = .request ∨ i = .wake ∨ isPseudo i = true → exec i s = .refused .busy

/-- R30: the host reads the result registers exactly while PHASE is Idle, and reads what they hold. R37: RDATA is readable
only once an operation has completed; that its read before gives nothing, and no fault, is the model's choice (log
entry 5). -/
def Obligations.HostReadsResultsInIdle : Prop :=
  ∀ s : State,
    (s.readResults.isSome = true ↔ s.phase = .idle) ∧
    ∀ r, s.readResults = some r →
      r.status = s.status.code ∧ r.rtfi = s.rtfi ∧ r.rlen = s.rlen ∧
        (s.status ≠ .none → r.rdata = some s.rdata) ∧ (s.status = .none → r.rdata = none)

/-! ### Encoding -/

/-- R93, R94, R90, R98, R104: words written out byte by byte decode to the instructions they stand for. -/
def Obligations.WordsDecode : Prop :=
  decode .hostPort [0x03] = .ok .request [] ∧
    decode .toHost [0x00, 0x00, 0xFF, 0x00, 0xFF, 0x00] = .ok .ack [] ∧
    decode .toHost [0x00, 0x00, 0xFF, 0xFF, 0x00, 0x00] = .ok .nak [] ∧
    decode .toChip [0x00, 0x00, 0xFF, 0x05, 0xFB, 0xD4, 0x14, 0x01, 0x14, 0x01, 0x02, 0x00] =
      .ok (.infoCmd 0x14 [0x01, 0x14, 0x01]) [] ∧
    decode .toHost [0x00, 0x00, 0xFF, 0x06, 0xFA, 0xD5, 0x03, 0x32, 0x01, 0x06, 0x07, 0xE8, 0x00] =
      .ok (.infoRsp 0x03 [0x32, 0x01, 0x06, 0x07]) [] ∧
    decode .toHost [0x00, 0x00, 0xFF, 0x02, 0xFE, 0x00, 0x00, 0x00, 0x00] = .ok (.info 0x00 [0x00]) []

/-- Decoding what the encoder gives returns every well-formed instruction that has an encoding, with every operand, and the
bytes after it (R90, R93, R94, R98, R104). Which stream a frame's bytes come from, and that the special row is taken where
it applies, is the model's choice (log entry 15). -/
def Obligations.EncodeDecodeRoundTrip : Prop :=
  ∀ (i : Instr) (bytes rest : List Byte), WellFormed i = true → encode i = some bytes →
    decode (encodingSource i) (bytes ++ rest) = .ok i rest

/-! ### Invariants -/

/-- R25, R26, R22, R34, R106: the invariant is kept by every step. Its clause on the clock rests on log entry 6. -/
def Obligations.StepKeepsInvariant : Prop :=
  ∀ s t : State, s.Inv → step s = .next t → t.Inv

/-- The invariant holds after construction with any legal configuration (R36). The clause LinkClosed says that SEL is
deasserted then, which R36 does not: it is the host's duty of R322 (2) and the model's choice (log entry 4). -/
def Obligations.InvariantAtReset : Prop :=
  ∀ c : Config, (State.construct c).Inv ∧ State.reset.Inv ∧ LinkClosed (State.construct c)

/-- R77, R34 (a), statement 9 of 95_test_vectors.md section 4: every instruction and every step keeps the brackets closed:
without a fault each Exchange stands in its own bracket and SEL is deasserted at the end. -/
def Obligations.BracketsStayClosed : Prop :=
  ∀ s t : State, LinkClosed s → (step s = .next t → LinkClosed t) ∧ ∀ i : Instr, exec i s = .next t → LinkClosed t

/-- R32, R21: no instruction and no step changes the configuration or the Command Layer's constants, and no instruction
takes from the host's queue. -/
def Obligations.ConfigurationIsReadOnly : Prop :=
  ∀ s t : State,
    (step s = .next t → t.cfg = s.cfg ∧ t.layer = s.layer) ∧
      ∀ i : Instr, exec i s = .next t → t.cfg = s.cfg ∧ t.layer = s.layer ∧ t.hostq = s.hostq

/-- R27, R293: over all instructions and all steps, the phase transitions among them, AWAKE rises only by a completed
exchange of the wake-up sequence, and falls only where a failure other than NakReceived and PayloadTooLarge is
recorded. -/
def Obligations.AwakeChangesOnlyAsStated : Prop :=
  ∀ s t : State, (step s = .next t ∨ ∃ i : Instr, exec i s = .next t) →
    (s.awake = false → t.awake = true →
      ∃ (rx : List Byte) (es : List Event),
        t.link.trace = s.link.trace ++ bracketEvents s.cfg.wakeSeq rx ++ es) ∧
    (s.awake = true → t.awake = false →
      ∃ e, t.status = .error e ∧ e ≠ .nakReceived ∧ e ≠ .payloadTooLarge)
end

