-- ==== Sys2Proof/Laws/Codec.lean ====
section
/-! SUPPORT. The codec's arithmetic on natural numbers, and the one shape of byte sequence that DECODE accepts. -/

namespace Sys2Proof
open Sys2Proof.Machine

/-! ### Sums -/

@[simp] theorem natSum_nil : natSum [] = 0 := rfl

@[simp] theorem natSum_cons (b : Byte) (s : List Byte) : natSum (b :: s) = b.toNat + natSum s := by simp [natSum]

@[simp] theorem natSum_append (s t : List Byte) : natSum (s ++ t) = natSum s + natSum t := by simp [natSum]

/-- The 8-bit accumulator gives the natural-number sum mod 256 (R130). -/
theorem byteSum_toNat (s : List Byte) : (byteSum s).toNat = natSum s % 256 := by
  induction s with
  | nil => rfl
  | cons b s ih => simp [byteSum, ih, BitVec.toNat_add]

/-- The sum does not see the order (R132). -/
theorem byteSum_perm {s t : List Byte} (h : s.Perm t) : byteSum s = byteSum t := by
  apply BitVec.eq_of_toNat_eq
  rw [byteSum_toNat, byteSum_toNat, natSum, natSum, (h.map _).sum_eq]

/-- A byte sum is 0 exactly when the natural-number sum is 0 mod 256. -/
theorem byte_eq_zero_iff (b : Byte) : b = 0#8 ↔ b.toNat % 256 = 0 := by
  constructor
  · rintro rfl; rfl
  · intro h
    apply BitVec.eq_of_toNat_eq
    have := b.isLt
    simp; omega

theorem lcsOk_iff (len l : Byte) : lcsOk len l = true ↔ (len.toNat + l.toNat) % 256 = 0 := by
  simp [lcsOk, byte_eq_zero_iff, BitVec.toNat_add]

theorem dcsOk_iff (d : List Byte) (c : Byte) : dcsOk d c = true ↔ (natSum d + c.toNat) % 256 = 0 := by
  simp [dcsOk, byte_eq_zero_iff, BitVec.toNat_add, byteSum_toNat]

theorem lcs_eq (len : Byte) : lcs len = BitVec.ofNat 8 (256 - len.toNat) := by
  apply BitVec.eq_of_toNat_eq
  simp [lcs, neg8]

theorem dcs_eq (tfi : Byte) (p : List Byte) :
    dcs tfi p = BitVec.ofNat 8 (256 - (tfi.toNat + natSum p) % 256) := by
  apply BitVec.eq_of_toNat_eq
  have := tfi.isLt
  simp [dcs, neg8, BitVec.toNat_add, byteSum_toNat]
  omega

/-! ### ENCODE -/

/-- ENCODE of a payload that fits is the frame of R90. -/
theorem encodeFrame_ok {p : List Byte} (tfi : Byte) (h : p.length ≤ 254) :
    encodeFrame tfi p = .ok (wireFrame tfi p) := by
  have h1 : (BitVec.ofNat 8 (p.length + 1)).toNat = p.length + 1 := by simp; omega
  rw [encodeFrame, if_neg (by omega), wireFrame, dcs_eq, lcs_eq, h1]
  rfl

theorem encodeFrame_err {p : List Byte} (tfi : Byte) (h : 255 ≤ p.length) :
    encodeFrame tfi p = .err .payloadTooLarge := by
  rw [encodeFrame, if_pos (by omega)]

/-- What ENCODE answered: the payload fits, and the result is the frame of R90. -/
theorem encodeFrame_eq_ok {tfi : Byte} {p f : List Byte} (h : encodeFrame tfi p = .ok f) :
    p.length ≤ 254 ∧ f = wireFrame tfi p := by
  by_cases hp : p.length ≤ 254
  · rw [encodeFrame_ok tfi hp] at h
    exact ⟨hp, by injection h with h; exact h.symm⟩
  · rw [encodeFrame_err tfi (by omega)] at h
    cases h

theorem encodeFrame_err_kind {tfi : Byte} {p : List Byte} {e : Err} (h : encodeFrame tfi p = .err e) :
    e = .payloadTooLarge ∧ 255 ≤ p.length := by
  by_cases hp : p.length ≤ 254
  · rw [encodeFrame_ok tfi hp] at h; cases h
  · rw [encodeFrame_err tfi (by omega)] at h
    exact ⟨by injection h with h; exact h.symm, by omega⟩

@[simp] theorem wireFrame_length (tfi : Byte) (p : List Byte) : (wireFrame tfi p).length = p.length + 8 := by
  simp [wireFrame]

/-! ### The shape DECODE accepts -/

/-- A byte sequence in the form of R90: header, direction byte, payload, checksum byte, postamble, and what follows. -/
def frameShape (len l tfi : Byte) (p : List Byte) (c b : Byte) (rest : List Byte) : List Byte :=
  0x00 :: 0x00 :: 0xFF :: len :: l :: tfi :: (p ++ c :: b :: rest)

/-- The relations of R91 between the fields. -/
def Balanced (len l tfi : Byte) (p : List Byte) (c : Byte) : Prop :=
  len.toNat = p.length + 1 ∧ (len.toNat + l.toNat) % 256 = 0 ∧ (tfi.toNat + natSum p + c.toNat) % 256 = 0

/-- DECODE accepts a balanced sequence (R136 step 7). -/
theorem decodeFrame_shape {len l tfi : Byte} {p : List Byte} {c : Byte} (b : Byte) (rest : List Byte)
    (h : Balanced len l tfi p c) : decodeFrame (frameShape len l tfi p c b rest) = .ok (tfi, p) := by
  obtain ⟨hl, hs, hd⟩ := h
  have hne : ¬ len = 0 := by rintro rfl; simp at hl
  have e1 : slice (frameShape len l tfi p c b rest) 5 (5 + len.toNat) = tfi :: p := by
    simp [slice, frameShape, hl, show 5 + (p.length + 1) = p.length + 6 by omega]
  have e2 : (frameShape len l tfi p c b rest).getD (5 + len.toNat) 0 = c := by
    simp [frameShape, hl, show 5 + (p.length + 1) = p.length + 6 by omega]
  have e3 : slice (frameShape len l tfi p c b rest) 6 (5 + len.toNat) = p := by
    simp [slice, frameShape, hl, show 5 + (p.length + 1) = p.length + 6 by omega]
  have g3 : (frameShape len l tfi p c b rest).getD 3 0 = len := rfl
  have g4 : (frameShape len l tfi p c b rest).getD 4 0 = l := rfl
  have g5 : (frameShape len l tfi p c b rest).getD 5 0 = tfi := rfl
  have hlen : (frameShape len l tfi p c b rest).length = p.length + 8 + rest.length := by
    simp [frameShape]; omega
  have k1 : lcsOk len l = true := (lcsOk_iff _ _).2 hs
  have k2 : dcsOk (tfi :: p) c = true := (dcsOk_iff _ _).2 (by simpa using hd)
  rw [decodeFrame, g3, g4, g5, e1, e2, e3, if_neg, if_neg, if_neg, if_neg hne, if_neg, if_neg]
  · simp [k2]
  · omega
  · simp [k1]
  · omega
  · rintro (h | h)
    · omega
    · exact h rfl

/-- Whatever DECODE accepts is balanced (R136 steps 1 to 7). -/
theorem decodeFrame_eq_ok {raw : List Byte} {tfi : Byte} {p : List Byte} (h : decodeFrame raw = .ok (tfi, p)) :
    ∃ len l c b rest, raw = frameShape len l tfi p c b rest ∧ Balanced len l tfi p c := by
  rw [decodeFrame] at h
  split at h; · cases h
  rename_i h1
  split at h; · cases h
  rename_i h2
  split at h; · cases h
  rename_i h3
  split at h; · cases h
  rename_i h4
  split at h; · cases h
  rename_i h5
  split at h; · cases h
  rename_i h6
  injection h with h
  injection h with ht hp
  obtain ⟨x, y, z, len, l, body, rfl⟩ : ∃ x y z len l body, raw = x :: y :: z :: len :: l :: body := by
    match raw, h2 with
    | x :: y :: z :: len :: l :: body, _ => exact ⟨x, y, z, len, l, body, rfl⟩
    | [], h => simp at h
    | [_], h => simp at h
    | [_, _], h => simp at h
    | [_, _, _], h => simp at h
    | [_, _, _, _], h => simp at h
  have g3 : (x :: y :: z :: len :: l :: body).getD 3 0 = len := rfl
  have g4 : (x :: y :: z :: len :: l :: body).getD 4 0 = l := rfl
  rw [g3] at h3 h4 h5 h6 hp
  rw [g4] at h3
  have hpre : x = 0x00 ∧ y = 0x00 ∧ z = 0xFF := by
    simpa [slice, preamble] using h1
  obtain ⟨rfl, rfl, rfl⟩ := hpre
  have hpos : 0 < len.toNat := by
    rcases Nat.eq_zero_or_pos len.toNat with h | h
    · exact absurd (BitVec.eq_of_toNat_eq (by simpa using h)) h4
    · exact h
  obtain ⟨n, hn⟩ : ∃ n, len.toNat = n + 1 := ⟨len.toNat - 1, by omega⟩
  have hb : n + 3 ≤ body.length := by simp at h5; omega
  obtain ⟨t, body, rfl⟩ : ∃ t b', body = t :: b' := by
    cases body with
    | nil => simp at hb
    | cons t b' => exact ⟨t, b', rfl⟩
  have hb' : n + 2 ≤ body.length := by simpa using hb
  have hsplit : body = body.take n ++ (body.drop n) := (List.take_append_drop n body).symm
  obtain ⟨c, b, rest, hd⟩ : ∃ c b rest, body.drop n = c :: b :: rest := by
    have : 2 ≤ (body.drop n).length := by simp; omega
    match hq : body.drop n, this with
    | c :: b :: rest, _ => exact ⟨c, b, rest, rfl⟩
    | [], h => simp at h
    | [_], h => simp at h
  have ht' : t = tfi := by simpa using ht
  have hp' : body.take n = p := by
    rw [← hp, hn]
    simp [slice, show 5 + (n + 1) = n + 6 by omega]
  have hplen : p.length = n := by rw [← hp']; simp; omega
  refine ⟨len, l, c, b, rest, ?_, ?_, ?_, ?_⟩
  · rw [frameShape, ← hp', ← ht', ← hd, List.take_append_drop]
  · omega
  · exact (lcsOk_iff _ _).1 (by simpa using h3)
  · have e1 : slice (0x00 :: 0x00 :: 0xFF :: len :: l :: t :: body) 5 (5 + len.toNat) = tfi :: p := by
      rw [hn, ← hp', ht']; simp [slice, show 5 + (n + 1) = n + 6 by omega]
    have e2 : (0x00 :: 0x00 :: 0xFF :: len :: l :: t :: body).getD (5 + len.toNat) 0 = c := by
      have : body[n]? = some c := by
        have := congrArg (fun q => q[0]?) hd
        simpa using this
      rw [hn]; simp [show 5 + (n + 1) = n + 6 by omega, this]
    rw [e1, e2] at h6
    have := (dcsOk_iff (tfi :: p) c).1 (by simpa using h6)
    simpa using this

/-- A header whose length checksum does not hold (R136 step 3). -/
theorem decodeFrame_badLcs (len l : Byte) (rest : List Byte) (h : lcsOk len l = false) :
    decodeFrame (0x00 :: 0x00 :: 0xFF :: len :: l :: rest) = .err .checksumMismatch := by
  rw [decodeFrame, if_neg, if_neg, if_pos]
  · exact h
  · simp
  · rintro (h | h)
    · simp at h; omega
    · exact h rfl

/-- DECODE's errors are the three frame errors (R136, R142). -/
theorem decodeFrame_err_kind {raw : List Byte} {e : Err} (h : decodeFrame raw = .err e) :
    e = .badPreamble ∨ e = .checksumMismatch ∨ e = .truncated := by
  rw [decodeFrame] at h
  repeat' split at h
  all_goals first | (injection h with h; subst h; simp) | cases h

/-- The frame ENCODE builds has the shape, and is balanced (R135). -/
theorem wireFrame_shape {tfi : Byte} {p : List Byte} (h : p.length ≤ 254) :
    ∃ len l c, wireFrame tfi p = frameShape len l tfi p c 0x00 [] ∧ Balanced len l tfi p c := by
  refine ⟨_, _, _, rfl, ?_, ?_, ?_⟩
  · simp; omega
  · simp; omega
  · simp; omega

/-- DECODE of the frame ENCODE builds, whatever follows it (R140, R138). -/
theorem decodeFrame_wireFrame {tfi : Byte} {p : List Byte} (h : p.length ≤ 254) (rest : List Byte) :
    decodeFrame (wireFrame tfi p ++ rest) = .ok (tfi, p) := by
  obtain ⟨len, l, c, e, hb⟩ := wireFrame_shape (tfi := tfi) h
  rw [e, show frameShape len l tfi p c 0 [] ++ rest = frameShape len l tfi p c 0 rest by simp [frameShape]]
  exact decodeFrame_shape _ _ hb

end Sys2Proof
end

