-- ==== Sys2Proof/Laws/State.lean ====
section
/-! SUPPORT. One lemma per field per shared update of State, true by rfl, so that no later proof unfolds a record update. -/

namespace Sys2Proof.Machine

/-! ### State.setLink: the link replaced -/

@[simp] theorem setLink_cfg (l : Link) (s : State) : (s.setLink l).cfg = s.cfg := rfl
@[simp] theorem setLink_opcode (l : Link) (s : State) : (s.setLink l).opcode = s.opcode := rfl
@[simp] theorem setLink_args (l : Link) (s : State) : (s.setLink l).args = s.args := rfl
@[simp] theorem setLink_tmode (l : Link) (s : State) : (s.setLink l).tmode = s.tmode := rfl
@[simp] theorem setLink_t1 (l : Link) (s : State) : (s.setLink l).t1 = s.t1 := rfl
@[simp] theorem setLink_t2 (l : Link) (s : State) : (s.setLink l).t2 = s.t2 := rfl
@[simp] theorem setLink_tack (l : Link) (s : State) : (s.setLink l).tack = s.tack := rfl
@[simp] theorem setLink_tresp (l : Link) (s : State) : (s.setLink l).tresp = s.tresp := rfl
@[simp] theorem setLink_txbuf (l : Link) (s : State) : (s.setLink l).txbuf = s.txbuf := rfl
@[simp] theorem setLink_ackbuf (l : Link) (s : State) : (s.setLink l).ackbuf = s.ackbuf := rfl
@[simp] theorem setLink_rxbuf (l : Link) (s : State) : (s.setLink l).rxbuf = s.rxbuf := rfl
@[simp] theorem setLink_cinTfi (l : Link) (s : State) : (s.setLink l).cinTfi = s.cinTfi := rfl
@[simp] theorem setLink_cin (l : Link) (s : State) : (s.setLink l).cin = s.cin := rfl
@[simp] theorem setLink_din (l : Link) (s : State) : (s.setLink l).din = s.din := rfl
@[simp] theorem setLink_phase (l : Link) (s : State) : (s.setLink l).phase = s.phase := rfl
@[simp] theorem setLink_pollcnt (l : Link) (s : State) : (s.setLink l).pollcnt = s.pollcnt := rfl
@[simp] theorem setLink_polllim (l : Link) (s : State) : (s.setLink l).polllim = s.polllim := rfl
@[simp] theorem setLink_awake (l : Link) (s : State) : (s.setLink l).awake = s.awake := rfl
@[simp] theorem setLink_status (l : Link) (s : State) : (s.setLink l).status = s.status := rfl
@[simp] theorem setLink_rtfi (l : Link) (s : State) : (s.setLink l).rtfi = s.rtfi := rfl
@[simp] theorem setLink_rdata (l : Link) (s : State) : (s.setLink l).rdata = s.rdata := rfl
@[simp] theorem setLink_link (l : Link) (s : State) : (s.setLink l).link = l := rfl
@[simp] theorem setLink_hostq (l : Link) (s : State) : (s.setLink l).hostq = s.hostq := rfl
@[simp] theorem setLink_written (l : Link) (s : State) : (s.setLink l).written = s.written := rfl
@[simp] theorem setLink_layer (l : Link) (s : State) : (s.setLink l).layer = s.layer := rfl
@[simp] theorem setLink_ret (l : Link) (s : State) : (s.setLink l).ret = s.ret := rfl

/-! ### State.setPhase: PHASE written -/

@[simp] theorem setPhase_cfg (p : Phase) (s : State) : (s.setPhase p).cfg = s.cfg := rfl
@[simp] theorem setPhase_opcode (p : Phase) (s : State) : (s.setPhase p).opcode = s.opcode := rfl
@[simp] theorem setPhase_args (p : Phase) (s : State) : (s.setPhase p).args = s.args := rfl
@[simp] theorem setPhase_tmode (p : Phase) (s : State) : (s.setPhase p).tmode = s.tmode := rfl
@[simp] theorem setPhase_t1 (p : Phase) (s : State) : (s.setPhase p).t1 = s.t1 := rfl
@[simp] theorem setPhase_t2 (p : Phase) (s : State) : (s.setPhase p).t2 = s.t2 := rfl
@[simp] theorem setPhase_tack (p : Phase) (s : State) : (s.setPhase p).tack = s.tack := rfl
@[simp] theorem setPhase_tresp (p : Phase) (s : State) : (s.setPhase p).tresp = s.tresp := rfl
@[simp] theorem setPhase_txbuf (p : Phase) (s : State) : (s.setPhase p).txbuf = s.txbuf := rfl
@[simp] theorem setPhase_ackbuf (p : Phase) (s : State) : (s.setPhase p).ackbuf = s.ackbuf := rfl
@[simp] theorem setPhase_rxbuf (p : Phase) (s : State) : (s.setPhase p).rxbuf = s.rxbuf := rfl
@[simp] theorem setPhase_cinTfi (p : Phase) (s : State) : (s.setPhase p).cinTfi = s.cinTfi := rfl
@[simp] theorem setPhase_cin (p : Phase) (s : State) : (s.setPhase p).cin = s.cin := rfl
@[simp] theorem setPhase_din (p : Phase) (s : State) : (s.setPhase p).din = s.din := rfl
@[simp] theorem setPhase_phase (p : Phase) (s : State) : (s.setPhase p).phase = p := rfl
@[simp] theorem setPhase_pollcnt (p : Phase) (s : State) : (s.setPhase p).pollcnt = s.pollcnt := rfl
@[simp] theorem setPhase_polllim (p : Phase) (s : State) : (s.setPhase p).polllim = s.polllim := rfl
@[simp] theorem setPhase_awake (p : Phase) (s : State) : (s.setPhase p).awake = s.awake := rfl
@[simp] theorem setPhase_status (p : Phase) (s : State) : (s.setPhase p).status = s.status := rfl
@[simp] theorem setPhase_rtfi (p : Phase) (s : State) : (s.setPhase p).rtfi = s.rtfi := rfl
@[simp] theorem setPhase_rdata (p : Phase) (s : State) : (s.setPhase p).rdata = s.rdata := rfl
@[simp] theorem setPhase_link (p : Phase) (s : State) : (s.setPhase p).link = s.link := rfl
@[simp] theorem setPhase_hostq (p : Phase) (s : State) : (s.setPhase p).hostq = s.hostq := rfl
@[simp] theorem setPhase_written (p : Phase) (s : State) : (s.setPhase p).written = s.written := rfl
@[simp] theorem setPhase_layer (p : Phase) (s : State) : (s.setPhase p).layer = s.layer := rfl
@[simp] theorem setPhase_ret (p : Phase) (s : State) : (s.setPhase p).ret = s.ret := rfl

/-! ### State.setAwake: AWAKE written -/

@[simp] theorem setAwake_cfg (b : Bool) (s : State) : (s.setAwake b).cfg = s.cfg := rfl
@[simp] theorem setAwake_opcode (b : Bool) (s : State) : (s.setAwake b).opcode = s.opcode := rfl
@[simp] theorem setAwake_args (b : Bool) (s : State) : (s.setAwake b).args = s.args := rfl
@[simp] theorem setAwake_tmode (b : Bool) (s : State) : (s.setAwake b).tmode = s.tmode := rfl
@[simp] theorem setAwake_t1 (b : Bool) (s : State) : (s.setAwake b).t1 = s.t1 := rfl
@[simp] theorem setAwake_t2 (b : Bool) (s : State) : (s.setAwake b).t2 = s.t2 := rfl
@[simp] theorem setAwake_tack (b : Bool) (s : State) : (s.setAwake b).tack = s.tack := rfl
@[simp] theorem setAwake_tresp (b : Bool) (s : State) : (s.setAwake b).tresp = s.tresp := rfl
@[simp] theorem setAwake_txbuf (b : Bool) (s : State) : (s.setAwake b).txbuf = s.txbuf := rfl
@[simp] theorem setAwake_ackbuf (b : Bool) (s : State) : (s.setAwake b).ackbuf = s.ackbuf := rfl
@[simp] theorem setAwake_rxbuf (b : Bool) (s : State) : (s.setAwake b).rxbuf = s.rxbuf := rfl
@[simp] theorem setAwake_cinTfi (b : Bool) (s : State) : (s.setAwake b).cinTfi = s.cinTfi := rfl
@[simp] theorem setAwake_cin (b : Bool) (s : State) : (s.setAwake b).cin = s.cin := rfl
@[simp] theorem setAwake_din (b : Bool) (s : State) : (s.setAwake b).din = s.din := rfl
@[simp] theorem setAwake_phase (b : Bool) (s : State) : (s.setAwake b).phase = s.phase := rfl
@[simp] theorem setAwake_pollcnt (b : Bool) (s : State) : (s.setAwake b).pollcnt = s.pollcnt := rfl
@[simp] theorem setAwake_polllim (b : Bool) (s : State) : (s.setAwake b).polllim = s.polllim := rfl
@[simp] theorem setAwake_awake (b : Bool) (s : State) : (s.setAwake b).awake = b := rfl
@[simp] theorem setAwake_status (b : Bool) (s : State) : (s.setAwake b).status = s.status := rfl
@[simp] theorem setAwake_rtfi (b : Bool) (s : State) : (s.setAwake b).rtfi = s.rtfi := rfl
@[simp] theorem setAwake_rdata (b : Bool) (s : State) : (s.setAwake b).rdata = s.rdata := rfl
@[simp] theorem setAwake_link (b : Bool) (s : State) : (s.setAwake b).link = s.link := rfl
@[simp] theorem setAwake_hostq (b : Bool) (s : State) : (s.setAwake b).hostq = s.hostq := rfl
@[simp] theorem setAwake_written (b : Bool) (s : State) : (s.setAwake b).written = s.written := rfl
@[simp] theorem setAwake_layer (b : Bool) (s : State) : (s.setAwake b).layer = s.layer := rfl
@[simp] theorem setAwake_ret (b : Bool) (s : State) : (s.setAwake b).ret = s.ret := rfl

/-! ### State.setTxbuf: TXBUF written -/

@[simp] theorem setTxbuf_cfg (b : List Byte) (s : State) : (s.setTxbuf b).cfg = s.cfg := rfl
@[simp] theorem setTxbuf_opcode (b : List Byte) (s : State) : (s.setTxbuf b).opcode = s.opcode := rfl
@[simp] theorem setTxbuf_args (b : List Byte) (s : State) : (s.setTxbuf b).args = s.args := rfl
@[simp] theorem setTxbuf_tmode (b : List Byte) (s : State) : (s.setTxbuf b).tmode = s.tmode := rfl
@[simp] theorem setTxbuf_t1 (b : List Byte) (s : State) : (s.setTxbuf b).t1 = s.t1 := rfl
@[simp] theorem setTxbuf_t2 (b : List Byte) (s : State) : (s.setTxbuf b).t2 = s.t2 := rfl
@[simp] theorem setTxbuf_tack (b : List Byte) (s : State) : (s.setTxbuf b).tack = s.tack := rfl
@[simp] theorem setTxbuf_tresp (b : List Byte) (s : State) : (s.setTxbuf b).tresp = s.tresp := rfl
@[simp] theorem setTxbuf_txbuf (b : List Byte) (s : State) : (s.setTxbuf b).txbuf = b := rfl
@[simp] theorem setTxbuf_ackbuf (b : List Byte) (s : State) : (s.setTxbuf b).ackbuf = s.ackbuf := rfl
@[simp] theorem setTxbuf_rxbuf (b : List Byte) (s : State) : (s.setTxbuf b).rxbuf = s.rxbuf := rfl
@[simp] theorem setTxbuf_cinTfi (b : List Byte) (s : State) : (s.setTxbuf b).cinTfi = s.cinTfi := rfl
@[simp] theorem setTxbuf_cin (b : List Byte) (s : State) : (s.setTxbuf b).cin = s.cin := rfl
@[simp] theorem setTxbuf_din (b : List Byte) (s : State) : (s.setTxbuf b).din = s.din := rfl
@[simp] theorem setTxbuf_phase (b : List Byte) (s : State) : (s.setTxbuf b).phase = s.phase := rfl
@[simp] theorem setTxbuf_pollcnt (b : List Byte) (s : State) : (s.setTxbuf b).pollcnt = s.pollcnt := rfl
@[simp] theorem setTxbuf_polllim (b : List Byte) (s : State) : (s.setTxbuf b).polllim = s.polllim := rfl
@[simp] theorem setTxbuf_awake (b : List Byte) (s : State) : (s.setTxbuf b).awake = s.awake := rfl
@[simp] theorem setTxbuf_status (b : List Byte) (s : State) : (s.setTxbuf b).status = s.status := rfl
@[simp] theorem setTxbuf_rtfi (b : List Byte) (s : State) : (s.setTxbuf b).rtfi = s.rtfi := rfl
@[simp] theorem setTxbuf_rdata (b : List Byte) (s : State) : (s.setTxbuf b).rdata = s.rdata := rfl
@[simp] theorem setTxbuf_link (b : List Byte) (s : State) : (s.setTxbuf b).link = s.link := rfl
@[simp] theorem setTxbuf_hostq (b : List Byte) (s : State) : (s.setTxbuf b).hostq = s.hostq := rfl
@[simp] theorem setTxbuf_written (b : List Byte) (s : State) : (s.setTxbuf b).written = s.written := rfl
@[simp] theorem setTxbuf_layer (b : List Byte) (s : State) : (s.setTxbuf b).layer = s.layer := rfl
@[simp] theorem setTxbuf_ret (b : List Byte) (s : State) : (s.setTxbuf b).ret = s.ret := rfl

/-! ### State.countAttempt: POLLCNT counted -/

@[simp] theorem countAttempt_cfg (s : State) : (s.countAttempt).cfg = s.cfg := rfl
@[simp] theorem countAttempt_opcode (s : State) : (s.countAttempt).opcode = s.opcode := rfl
@[simp] theorem countAttempt_args (s : State) : (s.countAttempt).args = s.args := rfl
@[simp] theorem countAttempt_tmode (s : State) : (s.countAttempt).tmode = s.tmode := rfl
@[simp] theorem countAttempt_t1 (s : State) : (s.countAttempt).t1 = s.t1 := rfl
@[simp] theorem countAttempt_t2 (s : State) : (s.countAttempt).t2 = s.t2 := rfl
@[simp] theorem countAttempt_tack (s : State) : (s.countAttempt).tack = s.tack := rfl
@[simp] theorem countAttempt_tresp (s : State) : (s.countAttempt).tresp = s.tresp := rfl
@[simp] theorem countAttempt_txbuf (s : State) : (s.countAttempt).txbuf = s.txbuf := rfl
@[simp] theorem countAttempt_ackbuf (s : State) : (s.countAttempt).ackbuf = s.ackbuf := rfl
@[simp] theorem countAttempt_rxbuf (s : State) : (s.countAttempt).rxbuf = s.rxbuf := rfl
@[simp] theorem countAttempt_cinTfi (s : State) : (s.countAttempt).cinTfi = s.cinTfi := rfl
@[simp] theorem countAttempt_cin (s : State) : (s.countAttempt).cin = s.cin := rfl
@[simp] theorem countAttempt_din (s : State) : (s.countAttempt).din = s.din := rfl
@[simp] theorem countAttempt_phase (s : State) : (s.countAttempt).phase = s.phase := rfl
@[simp] theorem countAttempt_pollcnt (s : State) : (s.countAttempt).pollcnt = s.pollcnt + 1 := rfl
@[simp] theorem countAttempt_polllim (s : State) : (s.countAttempt).polllim = s.polllim := rfl
@[simp] theorem countAttempt_awake (s : State) : (s.countAttempt).awake = s.awake := rfl
@[simp] theorem countAttempt_status (s : State) : (s.countAttempt).status = s.status := rfl
@[simp] theorem countAttempt_rtfi (s : State) : (s.countAttempt).rtfi = s.rtfi := rfl
@[simp] theorem countAttempt_rdata (s : State) : (s.countAttempt).rdata = s.rdata := rfl
@[simp] theorem countAttempt_link (s : State) : (s.countAttempt).link = s.link := rfl
@[simp] theorem countAttempt_hostq (s : State) : (s.countAttempt).hostq = s.hostq := rfl
@[simp] theorem countAttempt_written (s : State) : (s.countAttempt).written = s.written := rfl
@[simp] theorem countAttempt_layer (s : State) : (s.countAttempt).layer = s.layer := rfl
@[simp] theorem countAttempt_ret (s : State) : (s.countAttempt).ret = s.ret := rfl

/-! ### State.setResult: the outcome of a success -/

@[simp] theorem setResult_cfg (d : List Byte) (s : State) : (s.setResult d).cfg = s.cfg := rfl
@[simp] theorem setResult_opcode (d : List Byte) (s : State) : (s.setResult d).opcode = s.opcode := rfl
@[simp] theorem setResult_args (d : List Byte) (s : State) : (s.setResult d).args = s.args := rfl
@[simp] theorem setResult_tmode (d : List Byte) (s : State) : (s.setResult d).tmode = s.tmode := rfl
@[simp] theorem setResult_t1 (d : List Byte) (s : State) : (s.setResult d).t1 = s.t1 := rfl
@[simp] theorem setResult_t2 (d : List Byte) (s : State) : (s.setResult d).t2 = s.t2 := rfl
@[simp] theorem setResult_tack (d : List Byte) (s : State) : (s.setResult d).tack = s.tack := rfl
@[simp] theorem setResult_tresp (d : List Byte) (s : State) : (s.setResult d).tresp = s.tresp := rfl
@[simp] theorem setResult_txbuf (d : List Byte) (s : State) : (s.setResult d).txbuf = s.txbuf := rfl
@[simp] theorem setResult_ackbuf (d : List Byte) (s : State) : (s.setResult d).ackbuf = s.ackbuf := rfl
@[simp] theorem setResult_rxbuf (d : List Byte) (s : State) : (s.setResult d).rxbuf = s.rxbuf := rfl
@[simp] theorem setResult_cinTfi (d : List Byte) (s : State) : (s.setResult d).cinTfi = s.cinTfi := rfl
@[simp] theorem setResult_cin (d : List Byte) (s : State) : (s.setResult d).cin = s.cin := rfl
@[simp] theorem setResult_din (d : List Byte) (s : State) : (s.setResult d).din = s.din := rfl
@[simp] theorem setResult_phase (d : List Byte) (s : State) : (s.setResult d).phase = s.phase := rfl
@[simp] theorem setResult_pollcnt (d : List Byte) (s : State) : (s.setResult d).pollcnt = s.pollcnt := rfl
@[simp] theorem setResult_polllim (d : List Byte) (s : State) : (s.setResult d).polllim = s.polllim := rfl
@[simp] theorem setResult_awake (d : List Byte) (s : State) : (s.setResult d).awake = s.awake := rfl
@[simp] theorem setResult_status (d : List Byte) (s : State) : (s.setResult d).status = .ok := rfl
@[simp] theorem setResult_rtfi (d : List Byte) (s : State) : (s.setResult d).rtfi = s.rtfi := rfl
@[simp] theorem setResult_rdata (d : List Byte) (s : State) : (s.setResult d).rdata = d := rfl
@[simp] theorem setResult_link (d : List Byte) (s : State) : (s.setResult d).link = s.link := rfl
@[simp] theorem setResult_hostq (d : List Byte) (s : State) : (s.setResult d).hostq = s.hostq := rfl
@[simp] theorem setResult_written (d : List Byte) (s : State) : (s.setResult d).written = s.written := rfl
@[simp] theorem setResult_layer (d : List Byte) (s : State) : (s.setResult d).layer = s.layer := rfl
@[simp] theorem setResult_ret (d : List Byte) (s : State) : (s.setResult d).ret = s.ret := rfl

/-! ### State.setRet: the returned value -/

@[simp] theorem setRet_cfg (r : Ret) (s : State) : (s.setRet r).cfg = s.cfg := rfl
@[simp] theorem setRet_opcode (r : Ret) (s : State) : (s.setRet r).opcode = s.opcode := rfl
@[simp] theorem setRet_args (r : Ret) (s : State) : (s.setRet r).args = s.args := rfl
@[simp] theorem setRet_tmode (r : Ret) (s : State) : (s.setRet r).tmode = s.tmode := rfl
@[simp] theorem setRet_t1 (r : Ret) (s : State) : (s.setRet r).t1 = s.t1 := rfl
@[simp] theorem setRet_t2 (r : Ret) (s : State) : (s.setRet r).t2 = s.t2 := rfl
@[simp] theorem setRet_tack (r : Ret) (s : State) : (s.setRet r).tack = s.tack := rfl
@[simp] theorem setRet_tresp (r : Ret) (s : State) : (s.setRet r).tresp = s.tresp := rfl
@[simp] theorem setRet_txbuf (r : Ret) (s : State) : (s.setRet r).txbuf = s.txbuf := rfl
@[simp] theorem setRet_ackbuf (r : Ret) (s : State) : (s.setRet r).ackbuf = s.ackbuf := rfl
@[simp] theorem setRet_rxbuf (r : Ret) (s : State) : (s.setRet r).rxbuf = s.rxbuf := rfl
@[simp] theorem setRet_cinTfi (r : Ret) (s : State) : (s.setRet r).cinTfi = s.cinTfi := rfl
@[simp] theorem setRet_cin (r : Ret) (s : State) : (s.setRet r).cin = s.cin := rfl
@[simp] theorem setRet_din (r : Ret) (s : State) : (s.setRet r).din = s.din := rfl
@[simp] theorem setRet_phase (r : Ret) (s : State) : (s.setRet r).phase = s.phase := rfl
@[simp] theorem setRet_pollcnt (r : Ret) (s : State) : (s.setRet r).pollcnt = s.pollcnt := rfl
@[simp] theorem setRet_polllim (r : Ret) (s : State) : (s.setRet r).polllim = s.polllim := rfl
@[simp] theorem setRet_awake (r : Ret) (s : State) : (s.setRet r).awake = s.awake := rfl
@[simp] theorem setRet_status (r : Ret) (s : State) : (s.setRet r).status = s.status := rfl
@[simp] theorem setRet_rtfi (r : Ret) (s : State) : (s.setRet r).rtfi = s.rtfi := rfl
@[simp] theorem setRet_rdata (r : Ret) (s : State) : (s.setRet r).rdata = s.rdata := rfl
@[simp] theorem setRet_link (r : Ret) (s : State) : (s.setRet r).link = s.link := rfl
@[simp] theorem setRet_hostq (r : Ret) (s : State) : (s.setRet r).hostq = s.hostq := rfl
@[simp] theorem setRet_written (r : Ret) (s : State) : (s.setRet r).written = s.written := rfl
@[simp] theorem setRet_layer (r : Ret) (s : State) : (s.setRet r).layer = s.layer := rfl
@[simp] theorem setRet_ret (r : Ret) (s : State) : (s.setRet r).ret = r := rfl

/-! ### failEntry: the failure entry (R292) -/

@[simp] theorem failEntry_cfg (e : Err) (s : State) : (failEntry e s).cfg = s.cfg := rfl
@[simp] theorem failEntry_opcode (e : Err) (s : State) : (failEntry e s).opcode = s.opcode := rfl
@[simp] theorem failEntry_args (e : Err) (s : State) : (failEntry e s).args = s.args := rfl
@[simp] theorem failEntry_tmode (e : Err) (s : State) : (failEntry e s).tmode = s.tmode := rfl
@[simp] theorem failEntry_t1 (e : Err) (s : State) : (failEntry e s).t1 = s.t1 := rfl
@[simp] theorem failEntry_t2 (e : Err) (s : State) : (failEntry e s).t2 = s.t2 := rfl
@[simp] theorem failEntry_tack (e : Err) (s : State) : (failEntry e s).tack = s.tack := rfl
@[simp] theorem failEntry_tresp (e : Err) (s : State) : (failEntry e s).tresp = s.tresp := rfl
@[simp] theorem failEntry_txbuf (e : Err) (s : State) : (failEntry e s).txbuf = s.txbuf := rfl
@[simp] theorem failEntry_ackbuf (e : Err) (s : State) : (failEntry e s).ackbuf = s.ackbuf := rfl
@[simp] theorem failEntry_rxbuf (e : Err) (s : State) : (failEntry e s).rxbuf = s.rxbuf := rfl
@[simp] theorem failEntry_cinTfi (e : Err) (s : State) : (failEntry e s).cinTfi = s.cinTfi := rfl
@[simp] theorem failEntry_cin (e : Err) (s : State) : (failEntry e s).cin = s.cin := rfl
@[simp] theorem failEntry_din (e : Err) (s : State) : (failEntry e s).din = s.din := rfl
@[simp] theorem failEntry_phase (e : Err) (s : State) : (failEntry e s).phase = .failed := rfl
@[simp] theorem failEntry_pollcnt (e : Err) (s : State) : (failEntry e s).pollcnt = s.pollcnt := rfl
@[simp] theorem failEntry_polllim (e : Err) (s : State) : (failEntry e s).polllim = s.polllim := rfl
@[simp] theorem failEntry_awake (e : Err) (s : State) : (failEntry e s).awake = (keepsAwake e && s.awake) := rfl
@[simp] theorem failEntry_status (e : Err) (s : State) : (failEntry e s).status = .error e := rfl
@[simp] theorem failEntry_rtfi (e : Err) (s : State) : (failEntry e s).rtfi = s.rtfi := rfl
@[simp] theorem failEntry_rdata (e : Err) (s : State) : (failEntry e s).rdata = [] := rfl
@[simp] theorem failEntry_link (e : Err) (s : State) : (failEntry e s).link = s.link := rfl
@[simp] theorem failEntry_hostq (e : Err) (s : State) : (failEntry e s).hostq = s.hostq := rfl
@[simp] theorem failEntry_written (e : Err) (s : State) : (failEntry e s).written = s.written := rfl
@[simp] theorem failEntry_layer (e : Err) (s : State) : (failEntry e s).layer = s.layer := rfl
@[simp] theorem failEntry_ret (e : Err) (s : State) : (failEntry e s).ret = s.ret := rfl

/-! ### returnToIdle: the return to Idle (R226) -/

@[simp] theorem returnToIdle_cfg (s : State) : (returnToIdle s).cfg = s.cfg := rfl
@[simp] theorem returnToIdle_opcode (s : State) : (returnToIdle s).opcode = s.opcode := rfl
@[simp] theorem returnToIdle_args (s : State) : (returnToIdle s).args = s.args := rfl
@[simp] theorem returnToIdle_tmode (s : State) : (returnToIdle s).tmode = s.tmode := rfl
@[simp] theorem returnToIdle_t1 (s : State) : (returnToIdle s).t1 = s.t1 := rfl
@[simp] theorem returnToIdle_t2 (s : State) : (returnToIdle s).t2 = s.t2 := rfl
@[simp] theorem returnToIdle_tack (s : State) : (returnToIdle s).tack = s.tack := rfl
@[simp] theorem returnToIdle_tresp (s : State) : (returnToIdle s).tresp = s.tresp := rfl
@[simp] theorem returnToIdle_txbuf (s : State) : (returnToIdle s).txbuf = s.txbuf := rfl
@[simp] theorem returnToIdle_ackbuf (s : State) : (returnToIdle s).ackbuf = s.ackbuf := rfl
@[simp] theorem returnToIdle_rxbuf (s : State) : (returnToIdle s).rxbuf = s.rxbuf := rfl
@[simp] theorem returnToIdle_cinTfi (s : State) : (returnToIdle s).cinTfi = s.cinTfi := rfl
@[simp] theorem returnToIdle_cin (s : State) : (returnToIdle s).cin = s.cin := rfl
@[simp] theorem returnToIdle_din (s : State) : (returnToIdle s).din = s.din := rfl
@[simp] theorem returnToIdle_phase (s : State) : (returnToIdle s).phase = .idle := rfl
@[simp] theorem returnToIdle_pollcnt (s : State) : (returnToIdle s).pollcnt = s.pollcnt := rfl
@[simp] theorem returnToIdle_polllim (s : State) : (returnToIdle s).polllim = s.polllim := rfl
@[simp] theorem returnToIdle_awake (s : State) : (returnToIdle s).awake = s.awake := rfl
@[simp] theorem returnToIdle_status (s : State) : (returnToIdle s).status = s.status := rfl
@[simp] theorem returnToIdle_rtfi (s : State) : (returnToIdle s).rtfi = s.rtfi := rfl
@[simp] theorem returnToIdle_rdata (s : State) : (returnToIdle s).rdata = s.rdata := rfl
@[simp] theorem returnToIdle_link (s : State) : (returnToIdle s).link = s.link := rfl
@[simp] theorem returnToIdle_hostq (s : State) : (returnToIdle s).hostq = s.hostq := rfl
@[simp] theorem returnToIdle_written (s : State) : (returnToIdle s).written = s.written := rfl
@[simp] theorem returnToIdle_layer (s : State) : (returnToIdle s).layer = s.layer := rfl
@[simp] theorem returnToIdle_ret (s : State) : (returnToIdle s).ret = s.ret := rfl

/-! ### failPure: the failure of a pure operation (R294) -/

@[simp] theorem failPure_cfg (e : Err) (s : State) : (failPure e s).cfg = s.cfg := rfl
@[simp] theorem failPure_opcode (e : Err) (s : State) : (failPure e s).opcode = s.opcode := rfl
@[simp] theorem failPure_args (e : Err) (s : State) : (failPure e s).args = s.args := rfl
@[simp] theorem failPure_tmode (e : Err) (s : State) : (failPure e s).tmode = s.tmode := rfl
@[simp] theorem failPure_t1 (e : Err) (s : State) : (failPure e s).t1 = s.t1 := rfl
@[simp] theorem failPure_t2 (e : Err) (s : State) : (failPure e s).t2 = s.t2 := rfl
@[simp] theorem failPure_tack (e : Err) (s : State) : (failPure e s).tack = s.tack := rfl
@[simp] theorem failPure_tresp (e : Err) (s : State) : (failPure e s).tresp = s.tresp := rfl
@[simp] theorem failPure_txbuf (e : Err) (s : State) : (failPure e s).txbuf = s.txbuf := rfl
@[simp] theorem failPure_ackbuf (e : Err) (s : State) : (failPure e s).ackbuf = s.ackbuf := rfl
@[simp] theorem failPure_rxbuf (e : Err) (s : State) : (failPure e s).rxbuf = s.rxbuf := rfl
@[simp] theorem failPure_cinTfi (e : Err) (s : State) : (failPure e s).cinTfi = s.cinTfi := rfl
@[simp] theorem failPure_cin (e : Err) (s : State) : (failPure e s).cin = s.cin := rfl
@[simp] theorem failPure_din (e : Err) (s : State) : (failPure e s).din = s.din := rfl
@[simp] theorem failPure_phase (e : Err) (s : State) : (failPure e s).phase = s.phase := rfl
@[simp] theorem failPure_pollcnt (e : Err) (s : State) : (failPure e s).pollcnt = s.pollcnt := rfl
@[simp] theorem failPure_polllim (e : Err) (s : State) : (failPure e s).polllim = s.polllim := rfl
@[simp] theorem failPure_awake (e : Err) (s : State) : (failPure e s).awake = s.awake := rfl
@[simp] theorem failPure_status (e : Err) (s : State) : (failPure e s).status = .error e := rfl
@[simp] theorem failPure_rtfi (e : Err) (s : State) : (failPure e s).rtfi = s.rtfi := rfl
@[simp] theorem failPure_rdata (e : Err) (s : State) : (failPure e s).rdata = [] := rfl
@[simp] theorem failPure_link (e : Err) (s : State) : (failPure e s).link = s.link := rfl
@[simp] theorem failPure_hostq (e : Err) (s : State) : (failPure e s).hostq = s.hostq := rfl
@[simp] theorem failPure_written (e : Err) (s : State) : (failPure e s).written = s.written := rfl
@[simp] theorem failPure_layer (e : Err) (s : State) : (failPure e s).layer = s.layer := rfl
@[simp] theorem failPure_ret (e : Err) (s : State) : (failPure e s).ret = s.ret := rfl

/-! ### storeBudgets: SPLIT (R191) -/

@[simp] theorem storeBudgets_cfg (s : State) : (storeBudgets s).cfg = s.cfg := rfl
@[simp] theorem storeBudgets_opcode (s : State) : (storeBudgets s).opcode = s.opcode := rfl
@[simp] theorem storeBudgets_args (s : State) : (storeBudgets s).args = s.args := rfl
@[simp] theorem storeBudgets_tmode (s : State) : (storeBudgets s).tmode = s.tmode := rfl
@[simp] theorem storeBudgets_t1 (s : State) : (storeBudgets s).t1 = s.t1 := rfl
@[simp] theorem storeBudgets_t2 (s : State) : (storeBudgets s).t2 = s.t2 := rfl
@[simp] theorem storeBudgets_tack (s : State) : (storeBudgets s).tack = (splitBudgets s.tmode s.t1 s.t2).1 := rfl
@[simp] theorem storeBudgets_tresp (s : State) : (storeBudgets s).tresp = (splitBudgets s.tmode s.t1 s.t2).2 := rfl
@[simp] theorem storeBudgets_txbuf (s : State) : (storeBudgets s).txbuf = s.txbuf := rfl
@[simp] theorem storeBudgets_ackbuf (s : State) : (storeBudgets s).ackbuf = s.ackbuf := rfl
@[simp] theorem storeBudgets_rxbuf (s : State) : (storeBudgets s).rxbuf = s.rxbuf := rfl
@[simp] theorem storeBudgets_cinTfi (s : State) : (storeBudgets s).cinTfi = s.cinTfi := rfl
@[simp] theorem storeBudgets_cin (s : State) : (storeBudgets s).cin = s.cin := rfl
@[simp] theorem storeBudgets_din (s : State) : (storeBudgets s).din = s.din := rfl
@[simp] theorem storeBudgets_phase (s : State) : (storeBudgets s).phase = s.phase := rfl
@[simp] theorem storeBudgets_pollcnt (s : State) : (storeBudgets s).pollcnt = s.pollcnt := rfl
@[simp] theorem storeBudgets_polllim (s : State) : (storeBudgets s).polllim = s.polllim := rfl
@[simp] theorem storeBudgets_awake (s : State) : (storeBudgets s).awake = s.awake := rfl
@[simp] theorem storeBudgets_status (s : State) : (storeBudgets s).status = s.status := rfl
@[simp] theorem storeBudgets_rtfi (s : State) : (storeBudgets s).rtfi = s.rtfi := rfl
@[simp] theorem storeBudgets_rdata (s : State) : (storeBudgets s).rdata = s.rdata := rfl
@[simp] theorem storeBudgets_link (s : State) : (storeBudgets s).link = s.link := rfl
@[simp] theorem storeBudgets_hostq (s : State) : (storeBudgets s).hostq = s.hostq := rfl
@[simp] theorem storeBudgets_written (s : State) : (storeBudgets s).written = s.written := rfl
@[simp] theorem storeBudgets_layer (s : State) : (storeBudgets s).layer = s.layer := rfl
@[simp] theorem storeBudgets_ret (s : State) : (storeBudgets s).ret = s.ret := rfl

/-! ### storeAck: the store of READACK (R212) -/

@[simp] theorem storeAck_cfg (b : List Byte) (s : State) : (storeAck b s).cfg = s.cfg := rfl
@[simp] theorem storeAck_opcode (b : List Byte) (s : State) : (storeAck b s).opcode = s.opcode := rfl
@[simp] theorem storeAck_args (b : List Byte) (s : State) : (storeAck b s).args = s.args := rfl
@[simp] theorem storeAck_tmode (b : List Byte) (s : State) : (storeAck b s).tmode = s.tmode := rfl
@[simp] theorem storeAck_t1 (b : List Byte) (s : State) : (storeAck b s).t1 = s.t1 := rfl
@[simp] theorem storeAck_t2 (b : List Byte) (s : State) : (storeAck b s).t2 = s.t2 := rfl
@[simp] theorem storeAck_tack (b : List Byte) (s : State) : (storeAck b s).tack = s.tack := rfl
@[simp] theorem storeAck_tresp (b : List Byte) (s : State) : (storeAck b s).tresp = s.tresp := rfl
@[simp] theorem storeAck_txbuf (b : List Byte) (s : State) : (storeAck b s).txbuf = s.txbuf := rfl
@[simp] theorem storeAck_ackbuf (b : List Byte) (s : State) : (storeAck b s).ackbuf = b := rfl
@[simp] theorem storeAck_rxbuf (b : List Byte) (s : State) : (storeAck b s).rxbuf = s.rxbuf := rfl
@[simp] theorem storeAck_cinTfi (b : List Byte) (s : State) : (storeAck b s).cinTfi = s.cinTfi := rfl
@[simp] theorem storeAck_cin (b : List Byte) (s : State) : (storeAck b s).cin = s.cin := rfl
@[simp] theorem storeAck_din (b : List Byte) (s : State) : (storeAck b s).din = s.din := rfl
@[simp] theorem storeAck_phase (b : List Byte) (s : State) : (storeAck b s).phase = s.phase := rfl
@[simp] theorem storeAck_pollcnt (b : List Byte) (s : State) : (storeAck b s).pollcnt = s.pollcnt := rfl
@[simp] theorem storeAck_polllim (b : List Byte) (s : State) : (storeAck b s).polllim = s.polllim := rfl
@[simp] theorem storeAck_awake (b : List Byte) (s : State) : (storeAck b s).awake = s.awake := rfl
@[simp] theorem storeAck_status (b : List Byte) (s : State) : (storeAck b s).status = s.status := rfl
@[simp] theorem storeAck_rtfi (b : List Byte) (s : State) : (storeAck b s).rtfi = s.rtfi := rfl
@[simp] theorem storeAck_rdata (b : List Byte) (s : State) : (storeAck b s).rdata = s.rdata := rfl
@[simp] theorem storeAck_link (b : List Byte) (s : State) : (storeAck b s).link = s.link := rfl
@[simp] theorem storeAck_hostq (b : List Byte) (s : State) : (storeAck b s).hostq = s.hostq := rfl
@[simp] theorem storeAck_written (b : List Byte) (s : State) : (storeAck b s).written = s.written := rfl
@[simp] theorem storeAck_layer (b : List Byte) (s : State) : (storeAck b s).layer = s.layer := rfl
@[simp] theorem storeAck_ret (b : List Byte) (s : State) : (storeAck b s).ret = s.ret := rfl

/-! ### storeResp: the store of READRESP (R213) -/

@[simp] theorem storeResp_cfg (b : List Byte) (s : State) : (storeResp b s).cfg = s.cfg := rfl
@[simp] theorem storeResp_opcode (b : List Byte) (s : State) : (storeResp b s).opcode = s.opcode := rfl
@[simp] theorem storeResp_args (b : List Byte) (s : State) : (storeResp b s).args = s.args := rfl
@[simp] theorem storeResp_tmode (b : List Byte) (s : State) : (storeResp b s).tmode = s.tmode := rfl
@[simp] theorem storeResp_t1 (b : List Byte) (s : State) : (storeResp b s).t1 = s.t1 := rfl
@[simp] theorem storeResp_t2 (b : List Byte) (s : State) : (storeResp b s).t2 = s.t2 := rfl
@[simp] theorem storeResp_tack (b : List Byte) (s : State) : (storeResp b s).tack = s.tack := rfl
@[simp] theorem storeResp_tresp (b : List Byte) (s : State) : (storeResp b s).tresp = s.tresp := rfl
@[simp] theorem storeResp_txbuf (b : List Byte) (s : State) : (storeResp b s).txbuf = s.txbuf := rfl
@[simp] theorem storeResp_ackbuf (b : List Byte) (s : State) : (storeResp b s).ackbuf = s.ackbuf := rfl
@[simp] theorem storeResp_rxbuf (b : List Byte) (s : State) : (storeResp b s).rxbuf = b := rfl
@[simp] theorem storeResp_cinTfi (b : List Byte) (s : State) : (storeResp b s).cinTfi = s.cinTfi := rfl
@[simp] theorem storeResp_cin (b : List Byte) (s : State) : (storeResp b s).cin = s.cin := rfl
@[simp] theorem storeResp_din (b : List Byte) (s : State) : (storeResp b s).din = s.din := rfl
@[simp] theorem storeResp_phase (b : List Byte) (s : State) : (storeResp b s).phase = s.phase := rfl
@[simp] theorem storeResp_pollcnt (b : List Byte) (s : State) : (storeResp b s).pollcnt = s.pollcnt := rfl
@[simp] theorem storeResp_polllim (b : List Byte) (s : State) : (storeResp b s).polllim = s.polllim := rfl
@[simp] theorem storeResp_awake (b : List Byte) (s : State) : (storeResp b s).awake = s.awake := rfl
@[simp] theorem storeResp_status (b : List Byte) (s : State) : (storeResp b s).status = s.status := rfl
@[simp] theorem storeResp_rtfi (b : List Byte) (s : State) : (storeResp b s).rtfi = s.rtfi := rfl
@[simp] theorem storeResp_rdata (b : List Byte) (s : State) : (storeResp b s).rdata = s.rdata := rfl
@[simp] theorem storeResp_link (b : List Byte) (s : State) : (storeResp b s).link = s.link := rfl
@[simp] theorem storeResp_hostq (b : List Byte) (s : State) : (storeResp b s).hostq = s.hostq := rfl
@[simp] theorem storeResp_written (b : List Byte) (s : State) : (storeResp b s).written = s.written := rfl
@[simp] theorem storeResp_layer (b : List Byte) (s : State) : (storeResp b s).layer = s.layer := rfl
@[simp] theorem storeResp_ret (b : List Byte) (s : State) : (storeResp b s).ret = s.ret := rfl

/-! ### enterAckWait: S3 (R219) -/

@[simp] theorem enterAckWait_cfg (s : State) : (enterAckWait s).cfg = s.cfg := rfl
@[simp] theorem enterAckWait_opcode (s : State) : (enterAckWait s).opcode = s.opcode := rfl
@[simp] theorem enterAckWait_args (s : State) : (enterAckWait s).args = s.args := rfl
@[simp] theorem enterAckWait_tmode (s : State) : (enterAckWait s).tmode = s.tmode := rfl
@[simp] theorem enterAckWait_t1 (s : State) : (enterAckWait s).t1 = s.t1 := rfl
@[simp] theorem enterAckWait_t2 (s : State) : (enterAckWait s).t2 = s.t2 := rfl
@[simp] theorem enterAckWait_tack (s : State) : (enterAckWait s).tack = s.tack := rfl
@[simp] theorem enterAckWait_tresp (s : State) : (enterAckWait s).tresp = s.tresp := rfl
@[simp] theorem enterAckWait_txbuf (s : State) : (enterAckWait s).txbuf = s.txbuf := rfl
@[simp] theorem enterAckWait_ackbuf (s : State) : (enterAckWait s).ackbuf = s.ackbuf := rfl
@[simp] theorem enterAckWait_rxbuf (s : State) : (enterAckWait s).rxbuf = s.rxbuf := rfl
@[simp] theorem enterAckWait_cinTfi (s : State) : (enterAckWait s).cinTfi = s.cinTfi := rfl
@[simp] theorem enterAckWait_cin (s : State) : (enterAckWait s).cin = s.cin := rfl
@[simp] theorem enterAckWait_din (s : State) : (enterAckWait s).din = s.din := rfl
@[simp] theorem enterAckWait_phase (s : State) : (enterAckWait s).phase = .awaitingAck := rfl
@[simp] theorem enterAckWait_pollcnt (s : State) : (enterAckWait s).pollcnt = 0 := rfl
@[simp] theorem enterAckWait_polllim (s : State) : (enterAckWait s).polllim = limit s.cfg s.tack := rfl
@[simp] theorem enterAckWait_awake (s : State) : (enterAckWait s).awake = s.awake := rfl
@[simp] theorem enterAckWait_status (s : State) : (enterAckWait s).status = s.status := rfl
@[simp] theorem enterAckWait_rtfi (s : State) : (enterAckWait s).rtfi = s.rtfi := rfl
@[simp] theorem enterAckWait_rdata (s : State) : (enterAckWait s).rdata = s.rdata := rfl
@[simp] theorem enterAckWait_link (s : State) : (enterAckWait s).link = s.link := rfl
@[simp] theorem enterAckWait_hostq (s : State) : (enterAckWait s).hostq = s.hostq := rfl
@[simp] theorem enterAckWait_written (s : State) : (enterAckWait s).written = s.written := rfl
@[simp] theorem enterAckWait_layer (s : State) : (enterAckWait s).layer = s.layer := rfl
@[simp] theorem enterAckWait_ret (s : State) : (enterAckWait s).ret = s.ret := rfl

/-! ### enterResponseWait: S5 (R222) -/

@[simp] theorem enterResponseWait_cfg (s : State) : (enterResponseWait s).cfg = s.cfg := rfl
@[simp] theorem enterResponseWait_opcode (s : State) : (enterResponseWait s).opcode = s.opcode := rfl
@[simp] theorem enterResponseWait_args (s : State) : (enterResponseWait s).args = s.args := rfl
@[simp] theorem enterResponseWait_tmode (s : State) : (enterResponseWait s).tmode = s.tmode := rfl
@[simp] theorem enterResponseWait_t1 (s : State) : (enterResponseWait s).t1 = s.t1 := rfl
@[simp] theorem enterResponseWait_t2 (s : State) : (enterResponseWait s).t2 = s.t2 := rfl
@[simp] theorem enterResponseWait_tack (s : State) : (enterResponseWait s).tack = s.tack := rfl
@[simp] theorem enterResponseWait_tresp (s : State) : (enterResponseWait s).tresp = s.tresp := rfl
@[simp] theorem enterResponseWait_txbuf (s : State) : (enterResponseWait s).txbuf = s.txbuf := rfl
@[simp] theorem enterResponseWait_ackbuf (s : State) : (enterResponseWait s).ackbuf = s.ackbuf := rfl
@[simp] theorem enterResponseWait_rxbuf (s : State) : (enterResponseWait s).rxbuf = s.rxbuf := rfl
@[simp] theorem enterResponseWait_cinTfi (s : State) : (enterResponseWait s).cinTfi = s.cinTfi := rfl
@[simp] theorem enterResponseWait_cin (s : State) : (enterResponseWait s).cin = s.cin := rfl
@[simp] theorem enterResponseWait_din (s : State) : (enterResponseWait s).din = s.din := rfl
@[simp] theorem enterResponseWait_phase (s : State) : (enterResponseWait s).phase = .awaitingResponse := rfl
@[simp] theorem enterResponseWait_pollcnt (s : State) : (enterResponseWait s).pollcnt = 0 := rfl
@[simp] theorem enterResponseWait_polllim (s : State) : (enterResponseWait s).polllim = limit s.cfg s.tresp := rfl
@[simp] theorem enterResponseWait_awake (s : State) : (enterResponseWait s).awake = s.awake := rfl
@[simp] theorem enterResponseWait_status (s : State) : (enterResponseWait s).status = s.status := rfl
@[simp] theorem enterResponseWait_rtfi (s : State) : (enterResponseWait s).rtfi = s.rtfi := rfl
@[simp] theorem enterResponseWait_rdata (s : State) : (enterResponseWait s).rdata = s.rdata := rfl
@[simp] theorem enterResponseWait_link (s : State) : (enterResponseWait s).link = s.link := rfl
@[simp] theorem enterResponseWait_hostq (s : State) : (enterResponseWait s).hostq = s.hostq := rfl
@[simp] theorem enterResponseWait_written (s : State) : (enterResponseWait s).written = s.written := rfl
@[simp] theorem enterResponseWait_layer (s : State) : (enterResponseWait s).layer = s.layer := rfl
@[simp] theorem enterResponseWait_ret (s : State) : (enterResponseWait s).ret = s.ret := rfl

/-! ### The link's own updates -/

@[simp] theorem record_sel (l : Link) (e : Event) : (l.record e).sel = l.sel := rfl
@[simp] theorem record_elapsedMs (l : Link) (e : Event) : (l.record e).elapsedMs = l.elapsedMs := rfl
@[simp] theorem record_script (l : Link) (e : Event) : (l.record e).script = l.script.tail := rfl
@[simp] theorem record_calls (l : Link) (e : Event) : (l.record e).calls = l.calls + 1 := rfl
@[simp] theorem record_trace (l : Link) (e : Event) : (l.record e).trace = l.trace ++ [e] := rfl
@[simp] theorem afterWait_sel (l : Link) (ms n : Nat) : (l.afterWait ms n).sel = l.sel := rfl
@[simp] theorem afterWait_elapsedMs (l : Link) (ms n : Nat) : (l.afterWait ms n).elapsedMs = l.elapsedMs + n * ms := rfl
@[simp] theorem afterWait_script (l : Link) (ms n : Nat) : (l.afterWait ms n).script = l.script.drop (2 * n) := rfl
@[simp] theorem afterWait_calls (l : Link) (ms n : Nat) : (l.afterWait ms n).calls = l.calls + 2 * n := rfl
@[simp] theorem afterWait_trace (l : Link) (ms n : Nat) : (l.afterWait ms n).trace = l.trace ++ waitEvents ms n := rfl
@[simp] theorem afterRaised_sel (l : Link) : (l.afterRaised).sel = l.sel := rfl
@[simp] theorem afterRaised_elapsedMs (l : Link) : (l.afterRaised).elapsedMs = l.elapsedMs := rfl
@[simp] theorem afterRaised_script (l : Link) : (l.afterRaised).script = l.script.drop 1 := rfl
@[simp] theorem afterRaised_calls (l : Link) : (l.afterRaised).calls = l.calls + 1 := rfl
@[simp] theorem afterRaised_trace (l : Link) : (l.afterRaised).trace = l.trace ++ [.ready (some true)] := rfl
@[simp] theorem afterBracket_sel (l : Link) (tx rx : List Byte) : (l.afterBracket tx rx).sel = false := rfl
@[simp] theorem afterBracket_elapsedMs (l : Link) (tx rx : List Byte) : (l.afterBracket tx rx).elapsedMs = l.elapsedMs := rfl
@[simp] theorem afterBracket_script (l : Link) (tx rx : List Byte) : (l.afterBracket tx rx).script = l.script.drop 3 := rfl
@[simp] theorem afterBracket_calls (l : Link) (tx rx : List Byte) : (l.afterBracket tx rx).calls = l.calls + 3 := rfl
@[simp] theorem afterBracket_trace (l : Link) (tx rx : List Byte) : (l.afterBracket tx rx).trace = l.trace ++ bracketEvents tx rx := rfl

/-! ### How the updates meet setLink -/

@[simp] theorem setLink_setLink (l m : Link) (s : State) : (s.setLink l).setLink m = s.setLink m := rfl

@[simp] theorem setLink_self (s : State) : s.setLink s.link = s := rfl

/-! ### Host writes leave the engine, the results and the surroundings alone -/

/-- What a host write can do: it changes operand registers and their marks, nothing else (R105). -/
theorem hostWrite_frame (w : HostWrite) (s : State) :
    hostWrite w s =
      { s with
        opcode := (hostWrite w s).opcode, args := (hostWrite w s).args, tmode := (hostWrite w s).tmode
        t1 := (hostWrite w s).t1, t2 := (hostWrite w s).t2, cinTfi := (hostWrite w s).cinTfi
        cin := (hostWrite w s).cin, din := (hostWrite w s).din, written := (hostWrite w s).written } := by
  cases w <;> rfl

/-- The operands of a REQUEST as one record (R22, R105). -/
theorem writeRequest_eq (op : Byte) (args : List Byte) (tm : Timeout) (s : State) :
    writeRequest op args tm s = requestOperands op args tm s := by
  cases tm <;> rfl

end Sys2Proof.Machine
end

