-- ==== Sys2Proof/Laws/Ops.lean ====
section
/-! SUPPORT. What the shared operations can do, said once each: sequencing, the four primitives, the bracket. -/

namespace Sys2Proof.Machine

/-! ### Sequencing -/

section
variable {α β γ : Type}

@[simp] theorem bind_ok (a : α) (s : State) (f : α → State → Run β) : (Run.ok a s).bind f = f a s := rfl

@[simp] theorem bind_err (e : Err) (s : State) (f : α → State → Run β) : (Run.err e s : Run α).bind f = .err e s := rfl

@[simp] theorem settle_ok (a : α) (s : State) : settle (Run.ok a s) = s := rfl

@[simp] theorem settle_err (e : Err) (s : State) : settle (Run.err e s : Run α) = failEntry e s := rfl

theorem bind_assoc (r : Run α) (f : α → State → Run β) (g : β → State → Run γ) :
    (r.bind f).bind g = r.bind fun a s => (f a s).bind g := by
  cases r <;> rfl

/-- A sequence that succeeds succeeds in both parts. -/
theorem bind_eq_ok {r : Run α} {f : α → State → Run β} {b : β} {t : State} :
    r.bind f = .ok b t ↔ ∃ a s, r = .ok a s ∧ f a s = .ok b t := by
  cases r <;> simp [Run.bind]

/-- A sequence that fails fails in its first part, or in its second after the first. -/
theorem bind_eq_err {r : Run α} {f : α → State → Run β} {e : Err} {t : State} :
    r.bind f = .err e t ↔ r = .err e t ∨ ∃ a s, r = .ok a s ∧ f a s = .err e t := by
  cases r <;> simp [Run.bind]

end

/-! ### Received bytes -/

theorem padReceived_length (k n : Nat) (rx : List Byte) : (padReceived k n rx).length = n := by
  simp [padReceived]; omega

theorem padReceived_full (k : Nat) (rx : List Byte) : padReceived k rx.length rx = rx := by
  simp [padReceived]

theorem received_length (l : Link) (n : Nat) : (l.received n).length = n := padReceived_length _ _ _

theorem answer_cons {l : Link} {a : Answer} {as : List Answer} (h : l.script = a :: as) : l.answer = a := by
  simp [Link.answer, h]

/-! ### The four primitives with their answer given -/

theorem select_ok {s : State} {a : Answer} {as : List Answer} (b : Bool) (h : s.link.script = a :: as)
    (hf : a.fault = false) :
    select b s = .ok () (s.setLink { s.link.record (.select b true) with sel := b }) := by
  simp [select, State.prim, Link.select, answer_cons h, hf]

theorem select_err {s : State} {a : Answer} {as : List Answer} (b : Bool) (h : s.link.script = a :: as)
    (hf : a.fault = true) :
    select b s = .err .busFault
      (s.setLink { s.link.record (.select b false) with sel := Config.freeSel s.link.calls }) := by
  simp [select, State.prim, Link.select, answer_cons h, hf]

theorem exchange_ok {s : State} {a : Answer} {as : List Answer} (tx : List Byte) (h : s.link.script = a :: as)
    (hf : a.fault = false) :
    exchange tx s = .ok (padReceived s.link.calls tx.length a.rx)
      (s.setLink (s.link.record (.exchange tx (some (padReceived s.link.calls tx.length a.rx))))) := by
  simp [exchange, State.prim, Link.exchange, Link.received, answer_cons h, hf]

theorem exchange_err {s : State} {a : Answer} {as : List Answer} (tx : List Byte) (h : s.link.script = a :: as)
    (hf : a.fault = true) :
    exchange tx s = .err .busFault (s.setLink (s.link.record (.exchange tx none))) := by
  simp [exchange, State.prim, Link.exchange, answer_cons h, hf]

theorem ready_ok {s : State} {a : Answer} {as : List Answer} (h : s.link.script = a :: as) (hf : a.fault = false) :
    ready s = .ok a.level (s.setLink (s.link.record (.ready (some a.level)))) := by
  simp [ready, State.prim, Link.ready, answer_cons h, hf]

theorem ready_err {s : State} {a : Answer} {as : List Answer} (h : s.link.script = a :: as) (hf : a.fault = true) :
    ready s = .err .busFault (s.setLink (s.link.record (.ready none))) := by
  simp [ready, State.prim, Link.ready, answer_cons h, hf]

theorem sleep_ok {s : State} {a : Answer} {as : List Answer} (h : s.link.script = a :: as) (hf : a.fault = false) :
    sleepInterval s = .ok ()
      (s.setLink
        { s.link.record (.sleep s.cfg.intervalMs.toNat true) with
          elapsedMs := s.link.elapsedMs + s.cfg.intervalMs.toNat }) := by
  simp [sleepInterval, State.prim, Link.sleep, answer_cons h, hf]

theorem sleep_err {s : State} {a : Answer} {as : List Answer} (h : s.link.script = a :: as) (hf : a.fault = true) :
    sleepInterval s = .err .busFault
      (s.setLink
        { s.link.record (.sleep s.cfg.intervalMs.toNat false) with
          elapsedMs := s.link.elapsedMs + s.cfg.intervalMs.toNat }) := by
  simp [sleepInterval, State.prim, Link.sleep, answer_cons h, hf]

/-! ### What a primitive can do, whatever the environment answers -/

/-- The step of a link by events: they are recorded, the clock advances by their sleeps. -/
def Link.Ext (l m : Link) (es : List Event) : Prop :=
  m.trace = l.trace ++ es ∧ m.calls = l.calls + es.length ∧ m.elapsedMs = l.elapsedMs + sleptMs es

theorem sleptMs_append (es fs : List Event) : sleptMs (es ++ fs) = sleptMs es + sleptMs fs := by
  induction es with
  | nil => simp [sleptMs]
  | cons e es ih => cases e <;> simp [sleptMs, ih, Nat.add_assoc]

theorem Link.Ext.refl (l : Link) : l.Ext l [] := by simp [Link.Ext, sleptMs]

theorem Link.Ext.trans {l m n : Link} {es fs : List Event} (h : l.Ext m es) (g : m.Ext n fs) : l.Ext n (es ++ fs) := by
  obtain ⟨h1, h2, h3⟩ := h
  obtain ⟨g1, g2, g3⟩ := g
  refine ⟨?_, ?_, ?_⟩
  · rw [g1, h1, List.append_assoc]
  · rw [g2, h2, List.length_append, Nat.add_assoc]
  · rw [g3, h3, sleptMs_append, Nat.add_assoc]

/-- Select: the level asked for, or a fault that leaves SEL free. -/
theorem select_cases (b : Bool) (s : State) :
    (∃ l, select b s = .ok () (s.setLink l) ∧ s.link.Ext l [.select b true] ∧ l.sel = b) ∨
    (∃ l, select b s = .err .busFault (s.setLink l) ∧ s.link.Ext l [.select b false]) := by
  by_cases h : s.link.answer.fault = true
  · exact .inr ⟨{ s.link.record (.select b false) with sel := Config.freeSel s.link.calls },
      by simp [select, State.prim, Link.select, h], by simp [Link.Ext, sleptMs]⟩
  · exact .inl ⟨{ s.link.record (.select b true) with sel := b },
      by simp [select, State.prim, Link.select, h], by simp [Link.Ext, sleptMs]⟩

/-- Exchange: as many bytes as were sent, or a fault; SEL is left alone. -/
theorem exchange_cases (tx : List Byte) (s : State) :
    (∃ rx l, exchange tx s = .ok rx (s.setLink l) ∧ rx.length = tx.length ∧
      s.link.Ext l [.exchange tx (some rx)] ∧ l.sel = s.link.sel) ∨
    (∃ l, exchange tx s = .err .busFault (s.setLink l) ∧ s.link.Ext l [.exchange tx none] ∧
      l.sel = s.link.sel) := by
  by_cases h : s.link.answer.fault = true
  · exact .inr ⟨s.link.record (.exchange tx none), by simp [exchange, State.prim, Link.exchange, h],
      by simp [Link.Ext, sleptMs], rfl⟩
  · exact .inl ⟨s.link.received tx.length, s.link.record (.exchange tx (some (s.link.received tx.length))),
      by simp [exchange, State.prim, Link.exchange, h], received_length _ _, by simp [Link.Ext, sleptMs], rfl⟩

/-- Ready: a level, or a fault. -/
theorem ready_cases (s : State) :
    (∃ b l, ready s = .ok b (s.setLink l) ∧ s.link.Ext l [.ready (some b)] ∧ l.sel = s.link.sel) ∨
    (∃ l, ready s = .err .busFault (s.setLink l) ∧ s.link.Ext l [.ready none] ∧ l.sel = s.link.sel) := by
  by_cases h : s.link.answer.fault = true
  · exact .inr ⟨s.link.record (.ready none), by simp [ready, State.prim, Link.ready, h],
      by simp [Link.Ext, sleptMs], rfl⟩
  · exact .inl ⟨s.link.answer.level, s.link.record (.ready (some s.link.answer.level)),
      by simp [ready, State.prim, Link.ready, h], by simp [Link.Ext, sleptMs], rfl⟩

/-- Sleep(I): the interval passes, with or without a fault. -/
theorem sleep_cases (s : State) :
    (∃ l, sleepInterval s = .ok () (s.setLink l) ∧ s.link.Ext l [.sleep s.cfg.intervalMs.toNat true] ∧
      l.sel = s.link.sel) ∨
    (∃ l, sleepInterval s = .err .busFault (s.setLink l) ∧ s.link.Ext l [.sleep s.cfg.intervalMs.toNat false] ∧
      l.sel = s.link.sel) := by
  by_cases h : s.link.answer.fault = true
  · exact .inr ⟨{ s.link.record (.sleep s.cfg.intervalMs.toNat false) with
        elapsedMs := s.link.elapsedMs + s.cfg.intervalMs.toNat },
      by simp [sleepInterval, State.prim, Link.sleep, h], by simp [Link.Ext, sleptMs], rfl⟩
  · exact .inl ⟨{ s.link.record (.sleep s.cfg.intervalMs.toNat true) with
        elapsedMs := s.link.elapsedMs + s.cfg.intervalMs.toNat },
      by simp [sleepInterval, State.prim, Link.sleep, h], by simp [Link.Ext, sleptMs], rfl⟩

/-! ### The bracket -/

/-- A store that writes a buffer and nothing of the link. -/
def StoresBuffer (store : List Byte → State → State) : Prop :=
  ∀ b u l, store b (u.setLink l) = (store b u).setLink l

theorem discard_storesBuffer : StoresBuffer discard := fun _ _ _ => rfl

theorem storeAck_storesBuffer : StoresBuffer storeAck := fun _ _ _ => rfl

theorem storeResp_storesBuffer : StoresBuffer storeResp := fun _ _ _ => rfl

/-- A bracket without a fault (R77). -/
theorem bracket_ok {s : State} {x y z : Answer} {as : List Answer} (tx : List Byte)
    {store : List Byte → State → State} (hs : StoresBuffer store)
    (h : s.link.script = x :: y :: z :: as) (hx : x.fault = false) (hy : y.fault = false) (hz : z.fault = false) :
    bracket tx store s = .ok ()
      ((store (padReceived (s.link.calls + 1) tx.length y.rx) s).setLink
        (s.link.afterBracket tx (padReceived (s.link.calls + 1) tx.length y.rx))) := by
  rw [bracket, select_ok true h hx, bind_ok, exchange_ok (a := y) (as := z :: as) tx (by simp [h]) hy, bind_ok,
    hs, hs, setLink_setLink, select_ok (a := z) (as := as) false (by simp [h]) hz]
  simp [Link.afterBracket, bracketEvents, h, Link.record]

theorem Hands.length {b : List Byte} {as : List Answer} (h : Hands b as) : as.length = 3 := by
  obtain ⟨x, y, z, rfl, -⟩ := h
  rfl

/-- A bracket without a fault whose exchange is handed bytes. -/
theorem bracket_hands {s : State} {b : List Byte} {as rest : List Answer} (tx : List Byte)
    {store : List Byte → State → State} (hs : StoresBuffer store) (h : s.link.script = as ++ rest) (hh : Hands b as) :
    bracket tx store s = .ok ()
      ((store (padReceived (s.link.calls + 1) tx.length b) s).setLink
        (s.link.afterBracket tx (padReceived (s.link.calls + 1) tx.length b))) := by
  obtain ⟨x, y, z, rfl, hx, hy, hz, rfl⟩ := hh
  exact bracket_ok tx hs (by simpa using h) hx hy hz

/-- The script after a bracket. -/
theorem afterBracket_rest {l : Link} {as rest : List Answer} {tx rx b : List Byte} (h : l.script = as ++ rest)
    (hh : Hands b as) : (l.afterBracket tx rx).script = rest := by
  simp [h, ← hh.length]

/-- What a bracket can do (R77, R227): complete with as many bytes received as sent, or stop at one of its three
primitives. -/
theorem bracket_cases (tx : List Byte) {store : List Byte → State → State} (hs : StoresBuffer store) (s : State) :
    (∃ rx l, bracket tx store s = .ok () ((store rx s).setLink l) ∧ rx.length = tx.length ∧
      s.link.Ext l (bracketEvents tx rx) ∧ l.sel = false) ∨
    (∃ l, bracket tx store s = .err .busFault (s.setLink l) ∧ s.link.Ext l [.select true false]) ∨
    (∃ l, bracket tx store s = .err .busFault (s.setLink l) ∧
      s.link.Ext l [.select true true, .exchange tx none] ∧ l.sel = true) ∨
    (∃ rx l, bracket tx store s = .err .busFault ((store rx s).setLink l) ∧ rx.length = tx.length ∧
      s.link.Ext l [.select true true, .exchange tx (some rx), .select false false]) := by
  rcases select_cases true s with ⟨l1, h1, e1, s1⟩ | ⟨l1, h1, e1⟩
  · rcases exchange_cases tx (s.setLink l1) with ⟨rx, l2, h2, hr, e2, s2⟩ | ⟨l2, h2, e2, s2⟩
    · rcases select_cases false (store rx ((s.setLink l1).setLink l2)) with ⟨l3, h3, e3, s3⟩ | ⟨l3, h3, e3⟩
      · refine .inl ⟨rx, l3, ?_, hr, ?_, s3⟩
        · rw [bracket, h1, bind_ok, h2, bind_ok, h3, hs, hs]; rfl
        · rw [hs, hs] at e3
          exact (e1.trans e2).trans e3
      · refine .inr (.inr (.inr ⟨rx, l3, ?_, hr, ?_⟩))
        · rw [bracket, h1, bind_ok, h2, bind_ok, h3, hs, hs]; rfl
        · rw [hs, hs] at e3
          exact (e1.trans e2).trans e3
    · refine .inr (.inr (.inl ⟨l2, ?_, e1.trans e2, ?_⟩))
      · rw [bracket, h1, bind_ok, h2, bind_err]; rfl
      · rw [s2]; exact s1
  · exact .inr (.inl ⟨l1, by rw [bracket, h1, bind_err], e1⟩)

end Sys2Proof.Machine
end

