-- ==== Sys2Proof/Laws/Polling.lean ====
section
/-! SUPPORT. What POLL and a failed attempt can do: with the environment's answers given, and whatever they are. -/

namespace Sys2Proof.Machine

/-- The state after n failed attempts none of which was ready: POLLCNT and the link have moved, nothing else. -/
def State.waited (n : Nat) (s : State) : State :=
  { s with pollcnt := s.pollcnt + BitVec.ofNat 16 n, link := s.link.afterWait s.cfg.intervalMs.toNat n }

/-- POLLCNT raised by k, the link replaced: all that polling can do to a state. -/
def State.counted (k : Nat) (l : Link) (s : State) : State :=
  { s with pollcnt := s.pollcnt + BitVec.ofNat 16 k, link := l }

@[simp] theorem waited_zero (s : State) : s.waited 0 = s := by
  simp [State.waited, Link.afterWait, waitEvents]

theorem waitEvents_succ (ms n : Nat) : waitEvents ms (n + 1) = [.ready (some false), .sleep ms true] ++ waitEvents ms n :=
  rfl

theorem waitEvents_add (ms m n : Nat) : waitEvents ms (m + n) = waitEvents ms m ++ waitEvents ms n := by
  induction m with
  | zero => simp [waitEvents]
  | succ m ih => rw [Nat.succ_add, waitEvents_succ, waitEvents_succ, ih, List.append_assoc]

@[simp] theorem waitEvents_length (ms n : Nat) : (waitEvents ms n).length = 2 * n := by
  induction n with
  | zero => rfl
  | succ n ih => rw [waitEvents_succ, List.length_append, ih]; simp; omega

@[simp] theorem sleptMs_waitEvents (ms n : Nat) : sleptMs (waitEvents ms n) = n * ms := by
  induction n with
  | zero => simp [waitEvents, sleptMs]
  | succ n ih => rw [waitEvents_succ, sleptMs_append, ih]; simp [sleptMs, Nat.succ_mul, Nat.add_comm]

@[simp] theorem sentBytes_append (es fs : List Event) : sentBytes (es ++ fs) = sentBytes es ++ sentBytes fs := by
  induction es with
  | nil => rfl
  | cons e es ih => cases e <;> simp [sentBytes, ih]

@[simp] theorem sentBytes_bracketEvents (tx rx : List Byte) : sentBytes (bracketEvents tx rx) = [tx] := rfl

@[simp] theorem sentBytes_waitEvents (ms n : Nat) : sentBytes (waitEvents ms n) = [] := by
  induction n with
  | zero => rfl
  | succ n ih => rw [waitEvents_succ, sentBytes_append, ih]; rfl

/-! ### With the answers given -/

/-- One attempt that is not ready and does not fault (R193). -/
theorem pollLoop_notReady {s : State} {r z : Answer} {as : List Answer} (n : Nat)
    (h : s.link.script = r :: z :: as) (hr : r.fault = false) (hl : r.level = false) (hz : z.fault = false) :
    pollLoop (n + 1) s = pollLoop n (s.waited 1) := by
  rw [pollLoop, ready_ok h hr, bind_ok, hl, if_neg (by simp), failedAttempt,
    sleep_ok (a := z) (as := as) (by simp [h]) hz, bind_ok, bind_ok]
  congr 1
  simp [State.countAttempt, State.setLink, State.waited, Link.afterWait, waitEvents, Link.record, h]

theorem waited_waited (m n : Nat) (s : State) : (s.waited m).waited n = s.waited (m + n) := by
  simp [State.waited, Link.afterWait, waitEvents_add, BitVec.ofNat_add, BitVec.add_assoc, Nat.add_mul, Nat.mul_add,
    Nat.add_assoc, List.drop_drop]

/-- n attempts that are not ready. -/
theorem pollLoop_quiet {q rest : List Answer} (n m : Nat) (s : State) (h : s.link.script = q ++ rest)
    (hq : Quiet n q) : pollLoop (n + m) s = pollLoop m (s.waited n) := by
  induction n generalizing s q with
  | zero => simp
  | succ n ih =>
    obtain ⟨hlen, hall⟩ := hq
    match q, hlen with
    | r :: z :: q, hlen =>
      have hr := hall r (by simp)
      have hz := hall z (by simp)
      rw [show n + 1 + m = (n + m) + 1 by omega, pollLoop_notReady (n + m) (by simpa using h) hr.1 hr.2 hz.1,
        ih (q := q) (s.waited 1) (by simp [State.waited, h])
          ⟨by simp at hlen; omega, fun a ha => hall a (by simp [ha])⟩, waited_waited, Nat.add_comm 1 n]

/-- The script after n failed attempts. -/
theorem waited_script {q rest : List Answer} {n : Nat} {s : State} (h : s.link.script = q ++ rest) (hq : Quiet n q) :
    (s.waited n).link.script = rest := by
  simp [State.waited, h, ← hq.1]

/-- POLL where the ready signal is never true (R194 (b)). -/
theorem poll_timedOut {q rest : List Answer} {s : State} (h : s.link.script = q ++ rest)
    (hq : Quiet (s.polllim.toNat - s.pollcnt.toNat) q) :
    poll s = .ok .timedOut (s.waited (s.polllim.toNat - s.pollcnt.toNat)) := by
  have := pollLoop_quiet _ 0 s h hq
  rw [Nat.add_zero] at this
  rw [poll, this, pollLoop]

/-- POLL where the signal is true after n failed attempts (R194 (c)). -/
theorem poll_isReady {q rest : List Answer} {r : Answer} {n : Nat} {s : State} (h : s.link.script = q ++ r :: rest)
    (hq : Quiet n q) (hn : n < s.polllim.toNat - s.pollcnt.toNat) (hr : Raised r) :
    poll s = .ok .isReady ((s.waited n).setLink (s.link.afterWait s.cfg.intervalMs.toNat n).afterRaised) := by
  obtain ⟨m, hm⟩ : ∃ m, s.polllim.toNat - s.pollcnt.toNat = n + (m + 1) := 
    ⟨s.polllim.toNat - s.pollcnt.toNat - n - 1, by omega⟩
  have hs := waited_script h hq
  rw [poll, hm, pollLoop_quiet n (m + 1) s h hq, pollLoop, ready_ok hs hr.1, bind_ok, if_pos hr.2, hr.2]
  congr 2
  simp [State.waited] at hs
  simp [State.waited, Link.afterRaised, Link.record, Link.afterWait, hs]

/-! ### Whatever the environment answers -/

theorem countAttempt_counted (l : Link) (s : State) : (s.setLink l).countAttempt = s.counted 1 l := rfl

theorem counted_counted (j k : Nat) (l m : Link) (s : State) : (s.counted j l).counted k m = s.counted (j + k) m := by
  simp [State.counted, BitVec.ofNat_add, BitVec.add_assoc]

theorem counted_zero (l : Link) (s : State) : s.counted 0 l = s.setLink l := by
  simp [State.counted, State.setLink]

/-- A failed attempt (R193): the interval passes and POLLCNT is raised, or Sleep faults and it is not. -/
theorem failedAttempt_cases (s : State) :
    (∃ l, failedAttempt s = .ok () (s.counted 1 l) ∧ s.link.Ext l [.sleep s.cfg.intervalMs.toNat true] ∧
      l.sel = s.link.sel) ∨
    (∃ l, failedAttempt s = .err .busFault (s.setLink l) ∧
      s.link.Ext l [.sleep s.cfg.intervalMs.toNat false] ∧ l.sel = s.link.sel) := by
  rcases sleep_cases s with ⟨l, h, e, hs⟩ | ⟨l, h, e, hs⟩
  · exact .inl ⟨l, by rw [failedAttempt, h, bind_ok, countAttempt_counted], e, hs⟩
  · exact .inr ⟨l, by rw [failedAttempt, h, bind_err], e, hs⟩

/-- What POLL's loop can do with n attempts left (R193, R194): time out after all of them, find the signal true after k of
them, or stop at a fault of Ready or of Sleep. -/
theorem pollLoop_cases (n : Nat) (s : State) :
    ∃ k l, s.link.sel = l.sel ∧
      ((pollLoop n s = .ok .timedOut (s.counted k l) ∧ k = n ∧
          s.link.Ext l (waitEvents s.cfg.intervalMs.toNat k)) ∨
        (pollLoop n s = .ok .isReady (s.counted k l) ∧ k < n ∧
          s.link.Ext l (waitEvents s.cfg.intervalMs.toNat k ++ [.ready (some true)])) ∨
        (pollLoop n s = .err .busFault (s.counted k l) ∧ k < n ∧
          (s.link.Ext l (waitEvents s.cfg.intervalMs.toNat k ++ [.ready none]) ∨
            s.link.Ext l (waitEvents s.cfg.intervalMs.toNat k ++
              [.ready (some false), .sleep s.cfg.intervalMs.toNat false])))) := by
  induction n generalizing s with
  | zero =>
    exact ⟨0, s.link, rfl, .inl ⟨by rw [pollLoop, counted_zero, setLink_self], rfl, .refl _⟩⟩
  | succ n ih =>
    rcases ready_cases s with ⟨b, l1, h1, e1, s1⟩ | ⟨l1, h1, e1, s1⟩
    · cases b with
      | true =>
        refine ⟨0, l1, s1.symm, .inr (.inl ⟨?_, by omega, e1⟩)⟩
        rw [pollLoop, h1, bind_ok, if_pos rfl, counted_zero]
      | false =>
        rcases failedAttempt_cases (s.setLink l1) with ⟨l2, h2, e2, s2⟩ | ⟨l2, h2, e2, s2⟩
        · have step : pollLoop (n + 1) s = pollLoop n (s.counted 1 l2) := by
            rw [pollLoop, h1, bind_ok, if_neg (by simp), h2, bind_ok]
            rfl
          have e12 := e1.trans e2
          obtain ⟨k, l, hsel, hk⟩ := ih (s.counted 1 l2)
          have hc : (s.counted 1 l2).counted k l = s.counted (1 + k) l := counted_counted _ _ _ _ _
          have hw : ∀ es : List Event, l2.Ext l (waitEvents s.cfg.intervalMs.toNat k ++ es) →
              s.link.Ext l (waitEvents s.cfg.intervalMs.toNat (1 + k) ++ es) := by
            intro es he
            have := e12.trans he
            rw [Nat.add_comm 1 k, waitEvents_succ]
            simpa using this
          refine ⟨1 + k, l, by rw [← hsel]; simp [State.counted, s2, s1], ?_⟩
          rw [step, ← hc]
          rcases hk with ⟨hp, hk, he⟩ | ⟨hp, hk, he⟩ | ⟨hp, hk, he⟩
          · refine .inl ⟨hp, by omega, ?_⟩
            have := hw [] (by rw [List.append_nil]; exact he)
            simpa using this
          · exact .inr (.inl ⟨hp, by omega, hw _ he⟩)
          · exact .inr (.inr ⟨hp, by omega, he.imp (hw _) (hw _)⟩)
        · refine ⟨0, l2, by rw [s2]; exact s1.symm, .inr (.inr ⟨?_, by omega, .inr (e1.trans e2)⟩)⟩
          rw [pollLoop, h1, bind_ok, if_neg (by simp), h2, bind_err, counted_zero]
          rfl
    · refine ⟨0, l1, s1.symm, .inr (.inr ⟨?_, by omega, .inl e1⟩)⟩
      rw [pollLoop, h1, bind_err, counted_zero]

end Sys2Proof.Machine
end

