-- ==== Sys2Proof/Laws/Engine.lean ====
section
/-! SUPPORT. What the wake-up, the link operations, the two waits and REQUEST can do, whatever the environment
answers, and with its answers given. -/

namespace Sys2Proof.Machine

/-! ### The vocabulary of outcomes -/

/-- The events of a bracket that stopped at a fault (R77, R227). -/
inductive BracketFault (tx : List Byte) : List Event → Prop
  | raise : BracketFault tx [.select true false]
  | exchange : BracketFault tx [.select true true, .exchange tx none]
  | lower (rx : List Byte) (h : rx.length = tx.length) :
    BracketFault tx [.select true true, .exchange tx (some rx), .select false false]

/-- The events of POLL that follow its failed attempts where it stopped at a fault. -/
inductive PollFault (ms : Nat) : List Event → Prop
  | ready : PollFault ms [.ready none]
  | sleep : PollFault ms [.ready (some false), .sleep ms false]

/-- The events of k failed attempts of the ACK wait: a sample that was false, or six bytes that are neither constant
(R222). -/
inductive Attempts (ms : Nat) (tx : List Byte) : Nat → List Event → Prop
  | zero : Attempts ms tx 0 []
  | wait (k : Nat) (es : List Event) (h : Attempts ms tx k es) :
    Attempts ms tx (k + 1) (.ready (some false) :: .sleep ms true :: es)
  | neither (rx : List Byte) (k : Nat) (es : List Event) (hl : rx.length = tx.length) (hn : ackMatch rx = .neither)
    (h : Attempts ms tx k es) :
    Attempts ms tx (k + 1) (.ready (some true) :: (bracketEvents tx rx ++ .sleep ms true :: es))

/-- The events of an attempt of the ACK wait that stopped at a fault. -/
inductive AttemptFault (ms : Nat) (tx : List Byte) : List Event → Prop
  | poll (es : List Event) (h : PollFault ms es) : AttemptFault ms tx es
  | bracket (es : List Event) (h : BracketFault tx es) : AttemptFault ms tx (.ready (some true) :: es)
  | neither (rx : List Byte) (hl : rx.length = tx.length) :
    AttemptFault ms tx (.ready (some true) :: (bracketEvents tx rx ++ [.sleep ms false]))

theorem Attempts.waits {ms : Nat} {tx : List Byte} {k : Nat} {es : List Event} (j : Nat) (h : Attempts ms tx k es) :
    Attempts ms tx (j + k) (waitEvents ms j ++ es) := by
  induction j with
  | zero => simpa [waitEvents] using h
  | succ j ih =>
    rw [Nat.succ_add, waitEvents_succ]
    exact .wait _ _ ih

theorem AttemptFault.waits {ms : Nat} {tx : List Byte} {es : List Event} (j : Nat) (h : AttemptFault ms tx es) :
    ∃ fs gs, waitEvents ms j ++ es = fs ++ gs ∧ Attempts ms tx j fs ∧ AttemptFault ms tx gs :=
  ⟨_, es, rfl, by simpa using Attempts.waits j (.zero (ms := ms) (tx := tx)), h⟩

/-! ### Wake-up and the link operations -/

/-- A bracket whose received bytes are stored or dropped: it completes, or stops at a fault (R77, R227). -/
theorem bracket_outcome (tx : List Byte) {store : List Byte → State → State} (hs : StoresBuffer store) (s : State) :
    (∃ rx l, bracket tx store s = .ok () ((store rx s).setLink l) ∧ rx.length = tx.length ∧
      s.link.Ext l (bracketEvents tx rx) ∧ l.sel = false) ∨
    (∃ u l es, bracket tx store s = .err .busFault (u.setLink l) ∧ (u = s ∨ ∃ rx, rx.length = tx.length ∧ u = store rx s) ∧
      s.link.Ext l es ∧ BracketFault tx es) := by
  rcases bracket_cases tx hs s with h | ⟨l, h, e⟩ | ⟨l, h, e, -⟩ | ⟨rx, l, h, hr, e⟩
  · exact .inl h
  · exact .inr ⟨_, l, _, h, .inl rfl, e, .raise⟩
  · exact .inr ⟨_, l, _, h, .inl rfl, e, .exchange⟩
  · exact .inr ⟨_, l, _, h, .inr ⟨rx, hr, rfl⟩, e, .lower rx hr⟩

/-- WAKE_STEP (R196): AWAKE is set, or a fault leaves it. -/
theorem wakeStep_cases (s : State) :
    (∃ rx l, wakeStep s = .ok () ((s.setAwake true).setLink l) ∧ rx.length = s.cfg.wakeSeq.length ∧
      s.link.Ext l (bracketEvents s.cfg.wakeSeq rx) ∧ l.sel = false) ∨
    (∃ l es, wakeStep s = .err .busFault (s.setLink l) ∧ s.link.Ext l es ∧ BracketFault s.cfg.wakeSeq es) := by
  rcases bracket_outcome s.cfg.wakeSeq discard_storesBuffer s with
    ⟨rx, l, h, hr, e, hs⟩ | ⟨u, l, es, h, hu, e, hf⟩
  · exact .inl ⟨rx, l, by rw [wakeStep, h, bind_ok]; rfl, hr, e, hs⟩
  · have : u = s := by rcases hu with rfl | ⟨_, _, rfl⟩ <;> rfl
    subst this
    exact .inr ⟨l, es, by rw [wakeStep, h, bind_err], e, hf⟩

/-- SENDFRAME (R211). -/
theorem sendFrame_cases (s : State) :
    (∃ rx l, sendFrame s = .ok () (s.setLink l) ∧ rx.length = s.txbuf.length ∧
      s.link.Ext l (bracketEvents s.txbuf rx) ∧ l.sel = false) ∨
    (∃ l es, sendFrame s = .err .busFault (s.setLink l) ∧ s.link.Ext l es ∧ BracketFault s.txbuf es) := by
  rcases bracket_outcome s.txbuf discard_storesBuffer s with
    ⟨rx, l, h, hr, e, hs⟩ | ⟨u, l, es, h, hu, e, hf⟩
  · exact .inl ⟨rx, l, h, hr, e, hs⟩
  · have : u = s := by rcases hu with rfl | ⟨_, _, rfl⟩ <;> rfl
    subst this
    exact .inr ⟨l, es, h, e, hf⟩

/-! ### The ACK wait -/

/-- The bytes sent to read an ACK (R212). -/
abbrev State.ackProbe (s : State) : List Byte := List.replicate 6 s.cfg.txFill

/-- The bytes sent to read a response (R213). -/
abbrev State.respProbe (s : State) : List Byte := List.replicate s.cfg.rxCount.toNat s.cfg.txFill

/-- All that the ACK wait can do to a state: ACKBUF, POLLCNT raised by k, the link. -/
def State.acked (a : List Byte) (k : Nat) (l : Link) (s : State) : State :=
  { s with ackbuf := a, pollcnt := s.pollcnt + BitVec.ofNat 16 k, link := l }

/-- All that the response wait can do to a state before the response is looked at. -/
def State.responded (b : List Byte) (k : Nat) (l : Link) (s : State) : State :=
  { s with rxbuf := b, pollcnt := s.pollcnt + BitVec.ofNat 16 k, link := l }

theorem acked_acked (a b : List Byte) (j k : Nat) (l m : Link) (s : State) :
    (s.acked a j l).acked b k m = s.acked b (j + k) m := by
  simp [State.acked, BitVec.ofNat_add, BitVec.add_assoc]

@[simp] theorem acked_cfg (a : List Byte) (k : Nat) (l : Link) (s : State) : (s.acked a k l).cfg = s.cfg := rfl

@[simp] theorem acked_link (a : List Byte) (k : Nat) (l : Link) (s : State) : (s.acked a k l).link = l := rfl

@[simp] theorem responded_link (b : List Byte) (k : Nat) (l : Link) (s : State) : (s.responded b k l).link = l := rfl

@[simp] theorem counted_ackProbe (k : Nat) (l : Link) (s : State) : (s.counted k l).ackProbe = s.ackProbe := rfl

@[simp] theorem counted_respProbe (k : Nat) (l : Link) (s : State) : (s.counted k l).respProbe = s.respProbe := rfl

theorem counted_eq_acked (k : Nat) (l : Link) (s : State) : s.counted k l = s.acked s.ackbuf k l := rfl

theorem counted_eq_responded (k : Nat) (l : Link) (s : State) : s.counted k l = s.responded s.rxbuf k l := rfl

theorem ackMatch_eq_ack {b : List Byte} : ackMatch b = .ack ↔ b = ackFrame := by
  unfold ackMatch
  by_cases h : b = ackFrame
  · simp [h]
  · by_cases g : b = nakFrame
    · subst g; simp [h]
    · simp [h, g]

theorem ackMatch_eq_nak {b : List Byte} : ackMatch b = .nak ↔ b = nakFrame := by
  unfold ackMatch
  by_cases h : b = ackFrame
  · subst h; simp; decide
  · by_cases g : b = nakFrame <;> simp [h, g]
    subst g; decide

/-- No wrap while POLLCNT counts toward its bound. -/
theorem left_counted {s : State} {k : Nat} (a : List Byte) (l : Link)
    (hk : k ≤ s.polllim.toNat - s.pollcnt.toNat) (hb : s.pollcnt.toNat ≤ s.polllim.toNat) :
    (s.acked a k l).pollcnt.toNat = s.pollcnt.toNat + k := by
  have := s.polllim.isLt
  simp [State.acked, BitVec.toNat_add]
  omega

/-- What one ready attempt of the ACK wait reads (R222): an ACK, a NAK, or neither; or it stops at a fault. -/
theorem readAck_cases (s : State) :
    (∃ rx l, readAck s = .ok () ((storeAck rx s).setLink l) ∧ rx.length = 6 ∧
      s.link.Ext l (bracketEvents s.ackProbe rx) ∧ l.sel = false) ∨
    (∃ a l es, readAck s = .err .busFault ((storeAck a s).setLink l) ∧ (a = s.ackbuf ∨ a.length = 6) ∧
      s.link.Ext l es ∧ BracketFault s.ackProbe es) := by
  rcases bracket_outcome s.ackProbe storeAck_storesBuffer s with ⟨rx, l, h, hr, e, hs⟩ | ⟨u, l, es, h, hu, e, hf⟩
  · exact .inl ⟨rx, l, h, by simpa using hr, e, hs⟩
  · rcases hu with rfl | ⟨rx, hr, rfl⟩
    · exact .inr ⟨_, l, es, h, .inl rfl, e, hf⟩
    · exact .inr ⟨rx, l, es, h, .inr (by simpa using hr), e, hf⟩

/-- READRESP (R213). -/
theorem readResp_cases (s : State) :
    (∃ rx l, readResp s = .ok () ((storeResp rx s).setLink l) ∧ rx.length = s.cfg.rxCount.toNat ∧
      s.link.Ext l (bracketEvents s.respProbe rx) ∧ l.sel = false) ∨
    (∃ b l es, readResp s = .err .busFault ((storeResp b s).setLink l) ∧
      (b = s.rxbuf ∨ b.length = s.cfg.rxCount.toNat) ∧ s.link.Ext l es ∧ BracketFault s.respProbe es) := by
  rcases bracket_outcome s.respProbe storeResp_storesBuffer s with ⟨rx, l, h, hr, e, hs⟩ | ⟨u, l, es, h, hu, e, hf⟩
  · exact .inl ⟨rx, l, h, by simpa using hr, e, hs⟩
  · rcases hu with rfl | ⟨rx, hr, rfl⟩
    · exact .inr ⟨_, l, es, h, .inl rfl, e, hf⟩
    · exact .inr ⟨rx, l, es, h, .inr (by simpa using hr), e, hf⟩

/-- How the ACK wait can end (R214 S4): r is its result, k the failed attempts, es the events. -/
def AckWaitEnds (s : State) (r : Run Unit) (a : List Byte) (k : Nat) (l : Link) : Prop :=
  (r = .err .ackTimeout (s.acked a k l) ∧ k = s.polllim.toNat - s.pollcnt.toNat ∧
    (s.link.sel = false → l.sel = false) ∧
    ∃ es, s.link.Ext l es ∧ Attempts s.cfg.intervalMs.toNat s.ackProbe k es) ∨
  (k < s.polllim.toNat - s.pollcnt.toNat ∧
    ((∃ es, (r = .ok () (s.acked a k l) ∧ a = ackFrame ∨ r = .err .nakReceived (s.acked a k l) ∧ a = nakFrame) ∧
        l.sel = false ∧ Attempts s.cfg.intervalMs.toNat s.ackProbe k es ∧
        s.link.Ext l (es ++ .ready (some true) :: bracketEvents s.ackProbe a)) ∨
      (r = .err .busFault (s.acked a k l) ∧
        ∃ es fs, s.link.Ext l (es ++ fs) ∧ Attempts s.cfg.intervalMs.toNat s.ackProbe k es ∧
          AttemptFault s.cfg.intervalMs.toNat s.ackProbe fs)))

/-- More failed attempts before it. -/
theorem AckWaitEnds.after {s : State} {r : Run Unit} {a a' : List Byte} {j k : Nat} {l m : Link} {es : List Event}
    (hb : s.pollcnt.toNat ≤ s.polllim.toNat) (hj : j ≤ s.polllim.toNat - s.pollcnt.toNat) (e : s.link.Ext m es)
    (hs : s.link.sel = false → m.sel = false)
    (ha : ∀ k' es', Attempts s.cfg.intervalMs.toNat s.ackProbe k' es' →
      Attempts s.cfg.intervalMs.toNat s.ackProbe (j + k') (es ++ es'))
    (h : AckWaitEnds (s.acked a' j m) r a k l) : AckWaitEnds s r a (j + k) l := by
  have hc := left_counted a' m hj hb
  have hl : (s.acked a' j m).polllim = s.polllim := rfl
  rw [AckWaitEnds, hc, hl, acked_acked] at h
  rcases h with ⟨hr, hk, hsel, fs, e', hat⟩ | ⟨hk, ⟨fs, hr, hsel, hat, e'⟩ | ⟨hr, fs, gs, e', hat, hf⟩⟩
  · exact .inl ⟨hr, by omega, fun h => hsel (hs h), _, e.trans e', ha _ _ hat⟩
  · refine .inr ⟨by omega, .inl ⟨es ++ fs, hr, hsel, ha _ _ hat, ?_⟩⟩
    rw [List.append_assoc]
    exact e.trans e'
  · refine .inr ⟨by omega, .inr ⟨hr, es ++ fs, gs, ?_, ha _ _ hat, hf⟩⟩
    rw [List.append_assoc]
    exact e.trans e'

/-- What the ACK wait can do (R214 S4, R220 to R222), with more polls than attempts left. -/
theorem ackWait_cases (n : Nat) (s : State) (hb : s.pollcnt.toNat ≤ s.polllim.toNat)
    (hn : s.polllim.toNat - s.pollcnt.toNat < n) :
    ∃ a k l, (a = s.ackbuf ∨ a.length = 6) ∧ AckWaitEnds s (ackWait n s) a k l := by
  induction n generalizing s with
  | zero => omega
  | succ n ih =>
    obtain ⟨j, l1, s1, hp⟩ := pollLoop_cases (s.polllim.toNat - s.pollcnt.toNat) s
    have hat : Attempts s.cfg.intervalMs.toNat s.ackProbe j (waitEvents s.cfg.intervalMs.toNat j) := by
      simpa using Attempts.waits j (.zero (ms := s.cfg.intervalMs.toNat) (tx := s.ackProbe))
    rcases hp with ⟨hp, hj, e1⟩ | ⟨hp, hj, e1⟩ | ⟨hp, hj, e1⟩
    · refine ⟨s.ackbuf, j, l1, .inl rfl, .inl ⟨?_, hj, fun h => by rw [← s1, h], _, e1, hat⟩⟩
      rw [ackWait, poll, hp, bind_ok, counted_eq_acked]
    · rcases readAck_cases (s.counted j l1) with ⟨rx, l2, h2, hr, e2, s2⟩ | ⟨a, l2, es, h2, ha, e2, hf⟩
      · have hu : (storeAck rx (s.counted j l1)).setLink l2 = s.acked rx j l2 := rfl
        have e12 : s.link.Ext l2 (waitEvents s.cfg.intervalMs.toNat j ++
            .ready (some true) :: bracketEvents s.ackProbe rx) := by
          simpa using e1.trans e2
        cases hm : ackMatch rx with
        | ack =>
          refine ⟨rx, j, l2, .inr hr, .inr ⟨hj, .inl ⟨_, .inl ⟨?_, ackMatch_eq_ack.1 hm⟩, s2, hat, e12⟩⟩⟩
          rw [ackWait, poll, hp, bind_ok]
          simp only [h2, bind_ok]
          rw [hu, show (s.acked rx j l2).ackbuf = rx from rfl, hm]
        | nak =>
          refine ⟨rx, j, l2, .inr hr, .inr ⟨hj, .inl ⟨_, .inr ⟨?_, ackMatch_eq_nak.1 hm⟩, s2, hat, e12⟩⟩⟩
          rw [ackWait, poll, hp, bind_ok]
          simp only [h2, bind_ok]
          rw [hu, show (s.acked rx j l2).ackbuf = rx from rfl, hm]
        | neither =>
          rcases failedAttempt_cases (s.acked rx j l2) with ⟨l3, h3, e3, s3⟩ | ⟨l3, h3, e3, s3⟩
          · have hv : (s.acked rx j l2).counted 1 l3 = s.acked rx (j + 1) l3 := by
              rw [counted_eq_acked]; exact acked_acked _ _ _ _ _ _ _
            have hc : (s.acked rx (j + 1) l3).pollcnt.toNat = s.pollcnt.toNat + (j + 1) :=
              left_counted rx l3 (by omega) hb
            have hl : (s.acked rx (j + 1) l3).polllim = s.polllim := rfl
            obtain ⟨a, k, l, ha, hw⟩ := ih (s.acked rx (j + 1) l3) (by rw [hc, hl]; omega) (by rw [hc, hl]; omega)
            have hstep : ackWait (n + 1) s = ackWait n (s.acked rx (j + 1) l3) := by
              rw [ackWait, poll, hp, bind_ok]
              simp only [h2, bind_ok]
              rw [hu, show (s.acked rx j l2).ackbuf = rx from rfl, hm, h3, hv]
              rfl
            refine ⟨a, j + 1 + k, l, .inr ?_, ?_⟩
            · rcases ha with rfl | ha
              · exact hr
              · exact ha
            · rw [hstep]
              refine hw.after hb (by omega) (e12.trans e3) (fun _ => by rw [s3]; exact s2) ?_
              intro k' es' hk'
              have := Attempts.waits j (Attempts.neither rx k' es' (by simpa using hr) hm hk')
              rw [show j + 1 + k' = j + (k' + 1) by omega]
              simpa using this
          · refine ⟨rx, j, l3, .inr hr, .inr ⟨hj, .inr ⟨?_, _,
              .ready (some true) :: (bracketEvents s.ackProbe rx ++ [.sleep s.cfg.intervalMs.toNat false]), ?_, hat,
              .neither rx (by simpa using hr)⟩⟩⟩
            · rw [ackWait, poll, hp, bind_ok]
              simp only [h2, bind_ok]
              rw [hu, show (s.acked rx j l2).ackbuf = rx from rfl, hm, h3]
              rfl
            · simpa using e12.trans e3
      · refine ⟨a, j, l2, ha, .inr ⟨hj, .inr ⟨?_, _, .ready (some true) :: es, ?_, hat, .bracket _ hf⟩⟩⟩
        · rw [ackWait, poll, hp, bind_ok]
          simp only [h2, bind_err]
          rfl
        · simpa using e1.trans e2
    · refine ⟨s.ackbuf, j, l1, .inl rfl, .inr ⟨hj, .inr ⟨by rw [ackWait, poll, hp, bind_err, counted_eq_acked], ?_⟩⟩⟩
      rcases e1 with e1 | e1
      · exact ⟨_, _, e1, hat, .poll _ .ready⟩
      · exact ⟨_, _, e1, hat, .poll _ .sleep⟩

/-! ### The response wait -/

/-- What the response wait can do (R214 S6, R223 to R225): time out, stop at a fault, or read RX_COUNT bytes once and look
at them. -/
theorem responseWait_cases (s : State) :
    ∃ b k l, (b = s.rxbuf ∨ b.length = s.cfg.rxCount.toNat) ∧ k ≤ s.polllim.toNat - s.pollcnt.toNat ∧
      ((responseWait s = .err .responseTimeout (s.responded b k l) ∧ (s.link.sel = false → l.sel = false) ∧
          s.link.Ext l (waitEvents s.cfg.intervalMs.toNat k)) ∨
        (k < s.polllim.toNat - s.pollcnt.toNat ∧
          ((responseWait s = .err .busFault (s.responded b k l) ∧
              ∃ es, s.link.Ext l (waitEvents s.cfg.intervalMs.toNat k ++ es) ∧
                (PollFault s.cfg.intervalMs.toNat es ∨ ∃ fs, es = .ready (some true) :: fs ∧
                  BracketFault s.respProbe fs)) ∨
            (b.length = s.cfg.rxCount.toNat ∧ l.sel = false ∧
              s.link.Ext l (waitEvents s.cfg.intervalMs.toNat k ++
                .ready (some true) :: bracketEvents s.respProbe b) ∧
              responseWait s =
                match decodeFrame b with
                | .ok (tfi, payload) => acceptResponse tfi payload (s.responded b k l)
                | .err e => .err e (s.responded b k l))))) := by
  obtain ⟨k, l1, s1, hp⟩ := pollLoop_cases (s.polllim.toNat - s.pollcnt.toNat) s
  rcases hp with ⟨hp, hk, e1⟩ | ⟨hp, hk, e1⟩ | ⟨hp, hk, e1⟩
  · refine ⟨s.rxbuf, k, l1, .inl rfl, by omega, .inl ⟨?_, fun h => by rw [← s1, h], e1⟩⟩
    rw [responseWait, poll, hp, bind_ok, counted_eq_responded]
  · rcases readResp_cases (s.counted k l1) with ⟨rx, l2, h2, hr, e2, s2⟩ | ⟨b, l2, es, h2, hb, e2, hf⟩
    · refine ⟨rx, k, l2, .inr hr, by omega, .inr ⟨hk, .inr ⟨hr, s2, by simpa using e1.trans e2, ?_⟩⟩⟩
      rw [responseWait, poll, hp, bind_ok]
      simp only [h2, bind_ok]
      rfl
    · refine ⟨b, k, l2, hb, by omega, .inr ⟨hk, .inl ⟨?_, .ready (some true) :: es, by simpa using e1.trans e2,
        .inr ⟨es, rfl, hf⟩⟩⟩⟩
      rw [responseWait, poll, hp, bind_ok]
      simp only [h2, bind_err]
      rfl
  · refine ⟨s.rxbuf, k, l1, .inl rfl, by omega, .inr ⟨hk, .inl ⟨?_, ?_⟩⟩⟩
    · rw [responseWait, poll, hp, bind_err, counted_eq_responded]
    · rcases e1 with e1 | e1
      · exact ⟨_, e1, .inl .ready⟩
      · exact ⟨_, e1, .inl .sleep⟩

/-- What CORRELATE accepts (R173). -/
theorem correlate_eq_ok {op tfi : Byte} {p d : List Byte} (h : correlate op tfi p = .ok d) :
    tfi = tfiToHost ∧ p = expectTag op :: d := by
  unfold correlate at h
  split at h
  · cases h
  · rename_i ht
    split at h
    · cases h
    · split at h
      · cases h
      · rename_i tag data hg
        injection h with h
        subst h
        simp at ht hg
        exact ⟨ht, by rw [hg]⟩

/-- CORRELATE's errors (R173). -/
theorem correlate_err_kind {op tfi : Byte} {p : List Byte} {e : Err} (h : correlate op tfi p = .err e) :
    e = .opcodeMismatch ∨ e = .truncated := by
  unfold correlate at h
  repeat' split at h
  all_goals first | (injection h with h; subst h; simp) | cases h

/-! ### The start of a request -/

/-- The events of S1 (R217): the wake-up where AWAKE was 0. -/
def wakeEvents (s : State) (rx : List Byte) : List Event :=
  if s.awake then [] else bracketEvents s.cfg.wakeSeq rx

/-- The state after S0 has encoded the command (R214). -/
def State.encoded (s : State) : State := (storeBudgets s).setTxbuf (wireFrame tfiToChip (s.opcode :: s.args))

/-- S0 and S1 (R216, R217). -/
theorem startRequest_cases (s : State) :
    (254 ≤ s.args.length ∧ startRequest s = .err .payloadTooLarge (storeBudgets s)) ∨
    (s.args.length ≤ 253 ∧
      ((∃ rx l, startRequest s = .ok () (((s.encoded.setAwake true).setLink l).setPhase .wokenUp) ∧
          s.link.Ext l (wakeEvents s rx) ∧ (s.link.sel = false → l.sel = false)) ∨
        (s.awake = false ∧ ∃ l es, startRequest s = .err .busFault (s.encoded.setLink l) ∧ s.link.Ext l es ∧
          BracketFault s.cfg.wakeSeq es))) := by
  by_cases h : s.args.length ≤ 253
  · refine .inr ⟨h, ?_⟩
    have he : loadFrame s.opcode s.args (storeBudgets s) = .ok () s.encoded := by
      rw [loadFrame, encodeFrame_ok _ (by simp; omega)]; rfl
    cases ha : s.awake with
    | true =>
      refine .inl ⟨[], s.link, ?_, by rw [wakeEvents, ha]; exact .refl _, id⟩
      have : s.encoded = s.encoded.setAwake true := by
        rw [← ha]; rfl
      rw [startRequest, he, bind_ok, wakeIfNeeded, if_pos (show s.encoded.awake = true from ha), bind_ok]
      exact congrArg (fun u : State => Run.ok () (u.setPhase .wokenUp)) this
    | false =>
      have hn : ¬ s.encoded.awake = true := by
        rw [show s.encoded.awake = s.awake from rfl, ha]; simp
      rcases wakeStep_cases s.encoded with ⟨rx, l, hw, hr, e, hs⟩ | ⟨l, es, hw, e, hf⟩
      · refine .inl ⟨rx, l, ?_, by rw [wakeEvents, ha]; exact e, fun _ => hs⟩
        rw [startRequest, he, bind_ok, wakeIfNeeded, if_neg hn, hw]
        rfl
      · exact .inr ⟨rfl, l, es, by rw [startRequest, he, bind_ok, wakeIfNeeded, if_neg hn, hw]; rfl, e, hf⟩
  · refine .inl ⟨by omega, ?_⟩
    rw [startRequest, loadFrame, encodeFrame_err _ (by simp; omega)]
    rfl

/-! ### The whole request -/

/-- The bound of the ACK wait of a request. -/
abbrev State.ackBound (s : State) : Nat := (limit s.cfg (splitBudgets s.tmode s.t1 s.t2).1).toNat

/-- The bound of the response wait of a request. -/
abbrev State.respBound (s : State) : Nat := (limit s.cfg (splitBudgets s.tmode s.t1 s.t2).2).toNat

/-- The command frame of a request. -/
abbrev State.commandFrame (s : State) : List Byte := wireFrame tfiToChip (s.opcode :: s.args)

/-- The registers after a failure other than PayloadTooLarge: by then AWAKE is 1, or the failure clears it (R292, R293). -/
def FailedWith (e : Err) (t : State) : Prop := t.status = .error e ∧ t.rdata = [] ∧ t.awake = keepsAwake e

/-- How a request from s ends in t with these events (R214). -/
inductive RequestOutcome (s t : State) : List Event → Prop
  | tooLarge (h : 254 ≤ s.args.length) (hs : t.status = .error .payloadTooLarge) (hr : t.rdata = [])
      (ha : t.awake = s.awake) (hl : t.link = s.link) : RequestOutcome s t []
  | wakeFault (es : List Event) (h : s.args.length ≤ 253) (ha : s.awake = false) (ht : FailedWith .busFault t)
      (hf : BracketFault s.cfg.wakeSeq es) : RequestOutcome s t es
  | sendFault (wrx : List Byte) (es : List Event) (h : s.args.length ≤ 253) (ht : FailedWith .busFault t)
      (hf : BracketFault s.commandFrame es) : RequestOutcome s t (wakeEvents s wrx ++ es)
  | ackTimeout (wrx frx : List Byte) (k : Nat) (es : List Event) (h : s.args.length ≤ 253)
      (ht : FailedWith .ackTimeout t) (hk : k = s.ackBound) (he : Attempts s.cfg.intervalMs.toNat s.ackProbe k es)
      (hs : t.link.sel = false) :
      RequestOutcome s t (wakeEvents s wrx ++ (bracketEvents s.commandFrame frx ++ es))
  | ackFault (wrx frx : List Byte) (k : Nat) (es fs : List Event) (h : s.args.length ≤ 253)
      (ht : FailedWith .busFault t) (hk : k < s.ackBound) (he : Attempts s.cfg.intervalMs.toNat s.ackProbe k es)
      (hf : AttemptFault s.cfg.intervalMs.toNat s.ackProbe fs) :
      RequestOutcome s t (wakeEvents s wrx ++ (bracketEvents s.commandFrame frx ++ (es ++ fs)))
  | nak (wrx frx : List Byte) (k : Nat) (es : List Event) (h : s.args.length ≤ 253)
      (ht : FailedWith .nakReceived t) (hk : k < s.ackBound) (he : Attempts s.cfg.intervalMs.toNat s.ackProbe k es)
      (hs : t.link.sel = false) :
      RequestOutcome s t (wakeEvents s wrx ++ (bracketEvents s.commandFrame frx ++
        (es ++ .ready (some true) :: bracketEvents s.ackProbe nakFrame)))
  | respTimeout (wrx frx : List Byte) (k m : Nat) (es : List Event) (h : s.args.length ≤ 253)
      (ht : FailedWith .responseTimeout t) (hk : k < s.ackBound) (hm : m ≤ s.respBound)
      (he : Attempts s.cfg.intervalMs.toNat s.ackProbe k es) (hs : t.link.sel = false) :
      RequestOutcome s t (wakeEvents s wrx ++ (bracketEvents s.commandFrame frx ++
        ((es ++ .ready (some true) :: bracketEvents s.ackProbe ackFrame) ++ waitEvents s.cfg.intervalMs.toNat m)))
  | respFault (wrx frx : List Byte) (k m : Nat) (es fs : List Event) (h : s.args.length ≤ 253)
      (ht : FailedWith .busFault t) (hk : k < s.ackBound) (hm : m < s.respBound)
      (he : Attempts s.cfg.intervalMs.toNat s.ackProbe k es)
      (hf : PollFault s.cfg.intervalMs.toNat fs ∨ ∃ gs, fs = .ready (some true) :: gs ∧ BracketFault s.respProbe gs) :
      RequestOutcome s t (wakeEvents s wrx ++ (bracketEvents s.commandFrame frx ++
        ((es ++ .ready (some true) :: bracketEvents s.ackProbe ackFrame) ++
          (waitEvents s.cfg.intervalMs.toNat m ++ fs))))
  | read (wrx frx b : List Byte) (k m : Nat) (es : List Event) (h : s.args.length ≤ 253) (hk : k < s.ackBound)
      (hm : m < s.respBound) (he : Attempts s.cfg.intervalMs.toNat s.ackProbe k es) (hs : t.link.sel = false)
      (hb : b.length = s.cfg.rxCount.toNat) (hx : t.rxbuf = b)
      (ht : (t.status = .ok ∧ t.awake = true ∧ decodeFrame b = .ok (tfiToHost, expectTag s.opcode :: t.rdata)) ∨
        ∃ e, FailedWith e t ∧ (isFrameError e = true ∨ e = .opcodeMismatch)) :
      RequestOutcome s t (wakeEvents s wrx ++ (bracketEvents s.commandFrame frx ++
        ((es ++ .ready (some true) :: bracketEvents s.ackProbe ackFrame) ++
          (waitEvents s.cfg.intervalMs.toNat m ++ .ready (some true) :: bracketEvents s.respProbe b))))

/-- The registers a request leaves alone (R38). -/
structure RequestFrames (s t : State) : Prop where
  cfg : t.cfg = s.cfg
  opcode : t.opcode = s.opcode
  args : t.args = s.args
  tmode : t.tmode = s.tmode
  t1 : t.t1 = s.t1
  t2 : t.t2 = s.t2
  cinTfi : t.cinTfi = s.cinTfi
  cin : t.cin = s.cin
  din : t.din = s.din
  rtfi : t.rtfi = s.rtfi
  hostq : t.hostq = s.hostq
  written : t.written = s.written
  layer : t.layer = s.layer
  ret : t.ret = s.ret

theorem RequestFrames.trans {s t u : State} (h : RequestFrames s t) (g : RequestFrames t u) : RequestFrames s u :=
  ⟨g.cfg.trans h.cfg, g.opcode.trans h.opcode, g.args.trans h.args, g.tmode.trans h.tmode, g.t1.trans h.t1,
    g.t2.trans h.t2, g.cinTfi.trans h.cinTfi, g.cin.trans h.cin, g.din.trans h.din, g.rtfi.trans h.rtfi,
    g.hostq.trans h.hostq, g.written.trans h.written, g.layer.trans h.layer, g.ret.trans h.ret⟩

/-- S3 to S7 from the state S2 leaves. -/
def afterSend (u : State) : Run Unit :=
  (ackWait ((limit u.cfg u.tack).toNat + 1) (enterAckWait u)).bind fun _ s => responseWait (enterResponseWait s)

theorem requestBody_eq (s : State) :
    requestBody s = (startRequest s).bind fun _ s => (sendCommand s).bind fun _ s => afterSend s := rfl

/-- What a request's end says of its start. -/
def EndsFrom (s t : State) : Prop :=
  t.phase = .idle ∧ RequestFrames s t ∧ ∃ es, s.link.Ext t.link es ∧ RequestOutcome s t es

/-- S6 and S7 of a request, from the state S5 leaves. -/
theorem endsFrom_responseWait {s w : State} {wrx frx : List Byte} {k : Nat} {es : List Event}
    (hrun : runRequest s = returnToIdle (settle (responseWait w))) (hf : RequestFrames s w) (ha : w.awake = true)
    (hl : w.polllim.toNat - w.pollcnt.toNat = s.respBound) (h : s.args.length ≤ 253) (hk : k < s.ackBound)
    (he : Attempts s.cfg.intervalMs.toNat s.ackProbe k es) (hs : w.link.sel = false)
    (e : s.link.Ext w.link (wakeEvents s wrx ++ (bracketEvents s.commandFrame frx ++
      (es ++ .ready (some true) :: bracketEvents s.ackProbe ackFrame)))) : EndsFrom s (runRequest s) := by
  obtain ⟨b, m, l, -, hm, hx⟩ := responseWait_cases w
  rw [hl] at hm hx
  have hP : w.respProbe = s.respProbe := by simp only [State.respProbe, hf.cfg]
  rw [hf.cfg, hP] at hx
  have hfr : ∀ e, RequestFrames s (returnToIdle (failEntry e (w.responded b m l))) :=
    fun e => hf.trans (by constructor <;> rfl)
  rcases hx with ⟨hr, hs4, e4⟩ | ⟨hmlt, ⟨hr, fs, e4, hft⟩ | ⟨hb, hs4, e4, hr⟩⟩
  · rw [hrun, hr]
    refine ⟨rfl, hfr _, _, ?_, .respTimeout wrx frx k m es h ⟨rfl, rfl, rfl⟩ hk hm he (hs4 hs)⟩
    simpa using e.trans e4
  · rw [hrun, hr]
    refine ⟨rfl, hfr _, _, ?_, .respFault wrx frx k m es fs h ⟨rfl, rfl, rfl⟩ hk hmlt he hft⟩
    simpa using e.trans e4
  · have hfail : ∀ e', (isFrameError e' = true ∨ e' = .opcodeMismatch) →
        responseWait w = .err e' (w.responded b m l) → EndsFrom s (runRequest s) := by
      intro e' he' hr
      rw [hrun, hr]
      refine ⟨rfl, hfr _, _, ?_, .read wrx frx b k m es h hk hmlt he hs4 hb rfl (.inr ⟨e', ⟨rfl, rfl, ?_⟩, he'⟩)⟩
      · simpa using e.trans e4
      · show (keepsAwake e' && w.awake) = keepsAwake e'
        rw [ha, Bool.and_true]
    cases hd : decodeFrame b with
    | err e' =>
      rw [hd] at hr
      refine hfail e' (.inl ?_) hr
      rcases decodeFrame_err_kind hd with rfl | rfl | rfl <;> rfl
    | ok x =>
      obtain ⟨tfi, p⟩ := x
      rw [hd] at hr
      simp only [acceptResponse] at hr
      rw [show (w.responded b m l).opcode = s.opcode from hf.opcode] at hr
      cases hc : correlate s.opcode tfi p with
      | err e' =>
        rw [hc] at hr
        refine hfail e' ?_ hr
        rcases correlate_err_kind hc with rfl | rfl
        · exact .inr rfl
        · exact .inl rfl
      | ok d =>
        rw [hc] at hr
        obtain ⟨rfl, rfl⟩ := correlate_eq_ok hc
        rw [hrun, hr]
        refine ⟨rfl, hf.trans (by constructor <;> rfl), _, ?_,
          .read wrx frx b k m es h hk hmlt he hs4 hb rfl (.inl ⟨rfl, ha, hd⟩)⟩
        simpa using e.trans e4

/-- S4 of a request, from the state S3 leaves. -/
theorem endsFrom_ackWait {s v : State} {wrx frx : List Byte} {n : Nat}
    (hrun : runRequest s = returnToIdle (settle
      ((ackWait n v).bind fun _ s => responseWait (enterResponseWait s)))) (hn : s.ackBound < n)
    (hf : RequestFrames s v) (ha : v.awake = true) (hc : v.pollcnt = 0) (hl : v.polllim = limit s.cfg (splitBudgets s.tmode s.t1 s.t2).1)
    (hr : limit v.cfg v.tresp = limit s.cfg (splitBudgets s.tmode s.t1 s.t2).2) (h : s.args.length ≤ 253)
    (hs : v.link.sel = false) (e : s.link.Ext v.link (wakeEvents s wrx ++ bracketEvents s.commandFrame frx)) :
    EndsFrom s (runRequest s) := by
  have hl' : v.polllim.toNat - v.pollcnt.toNat = s.ackBound := by rw [hl, hc]; rfl
  obtain ⟨a, k, l, -, hw⟩ := ackWait_cases n v (by rw [hc]; simp) (by omega)
  have hP : v.ackProbe = s.ackProbe := by simp only [State.ackProbe, hf.cfg]
  rw [AckWaitEnds, hl', hf.cfg, hP] at hw
  have hfr : ∀ e, RequestFrames s (returnToIdle (failEntry e (v.acked a k l))) :=
    fun e => hf.trans (by constructor <;> rfl)
  rcases hw with ⟨hw, hk, hs', es, e3, hat⟩ | ⟨hk, ⟨es, ⟨hw, rfl⟩ | ⟨hw, rfl⟩, hs', hat, e3⟩ | ⟨hw, es, fs, e3, hat, hft⟩⟩
  · rw [hrun, hw]
    refine ⟨rfl, hfr _, _, ?_, .ackTimeout wrx frx k es h ⟨rfl, rfl, rfl⟩ hk hat (hs' hs)⟩
    simpa using e.trans e3
  · refine endsFrom_responseWait (w := enterResponseWait (v.acked ackFrame k l)) (wrx := wrx) (frx := frx)
      (by rw [hrun, hw, bind_ok]) (hf.trans (by constructor <;> rfl)) ha ?_ h hk hat hs' (by simpa using e.trans e3)
    show (limit v.cfg v.tresp).toNat - 0 = _
    rw [hr]; rfl
  · rw [hrun, hw]
    refine ⟨rfl, hfr _, _, ?_, .nak wrx frx k es h ⟨rfl, rfl, ?_⟩ hk hat hs'⟩
    · simpa using e.trans e3
    · show (keepsAwake .nakReceived && v.awake) = keepsAwake .nakReceived
      rw [ha, Bool.and_true]
  · rw [hrun, hw]
    refine ⟨rfl, hfr _, _, ?_, .ackFault wrx frx k es fs h ⟨rfl, rfl, rfl⟩ hk hat hft⟩
    simpa using e.trans e3

/-- What REQUEST can do (R214): it ends in Idle, in one of the ways of `RequestOutcome`. -/
theorem runRequest_cases (s : State) : EndsFrom s (runRequest s) := by
  rcases startRequest_cases s with ⟨h, hr⟩ | ⟨h, ⟨wrx, l1, hr, e1, s1⟩ | ⟨ha, l, es, hr, e, hf⟩⟩
  · have ht : runRequest s = returnToIdle (failEntry .payloadTooLarge (storeBudgets s)) := by
      rw [runRequest, requestBody_eq, hr]; rfl
    rw [ht]
    exact ⟨rfl, by constructor <;> rfl, [], .refl _, .tooLarge h rfl rfl (by simp [keepsAwake]) rfl⟩
  · rcases sendFrame_cases (((s.encoded.setAwake true).setLink l1).setPhase .wokenUp) with
      ⟨frx, l2, h2, -, e2, s2⟩ | ⟨l2, es, h2, e2, hf⟩
    · have e2' : l1.Ext l2 (bracketEvents s.commandFrame frx) := e2
      refine endsFrom_ackWait (s := s) (wrx := wrx) (frx := frx)
        (v := enterAckWait
          (((((s.encoded.setAwake true).setLink l1).setPhase .wokenUp).setLink l2).setPhase .frameSent))
        (by rw [runRequest, requestBody_eq, hr, bind_ok, sendCommand, h2, bind_ok, bind_ok, afterSend])
        (by simp [State.encoded]) (by constructor <;> simp [State.encoded]) (by simp) (by simp)
        (by simp [State.encoded]) (by simp [State.encoded]) h s2 (by simpa using e1.trans e2')
    · have ht : runRequest s = returnToIdle (failEntry .busFault
          ((((s.encoded.setAwake true).setLink l1).setPhase .wokenUp).setLink l2)) := by
        rw [runRequest, requestBody_eq, hr, bind_ok, sendCommand, h2]; rfl
      rw [ht]
      exact ⟨rfl, by constructor <;> simp [State.encoded], _, e1.trans e2, .sendFault wrx es h ⟨rfl, rfl, rfl⟩ hf⟩
  · have ht : runRequest s = returnToIdle (failEntry .busFault (s.encoded.setLink l)) := by
      rw [runRequest, requestBody_eq, hr]; rfl
    rw [ht]
    exact ⟨rfl, by constructor <;> rfl, es, e, .wakeFault es h ha ⟨rfl, rfl, rfl⟩ hf⟩

/-! ### REQUEST as an instruction -/

/-- REQUEST in Idle runs (R328). -/
theorem exec_request {s : State} (h : s.phase = .idle) : exec .request s = .next (runRequest s) := by
  rw [exec, execRequest, if_neg (by simp [State.busy, h])]

/-- REQUEST answers a next state in Idle alone (R28, R328). -/
theorem exec_request_next {s t : State} (h : exec .request s = .next t) : s.phase = .idle ∧ t = runRequest s := by
  rw [exec, execRequest] at h
  split at h
  · cases h
  · rename_i hb
    injection h with h
    refine ⟨?_, h.symm⟩
    by_contra hp
    exact hb (by simp [State.busy, hp])

/-! ### With the answers given -/

/-- S0 to S2 where no primitive faults (R216 to R218). -/
theorem requestBody_sent {s : State} {w f rest : List Answer} {fb : List Byte} (h : s.args.length ≤ 253)
    (hs : s.link.script = w ++ (f ++ rest)) (h1 : s.awake = true → w = [])
    (h2 : s.awake = false → ∃ wb, Hands wb w) (hf : Hands fb f) :
    ∃ wrx frx l, l.script = rest ∧ l.sel = false ∧ l.elapsedMs = s.link.elapsedMs ∧
      l.calls = s.link.calls + (if s.awake then 0 else 3) + 3 ∧
      l.trace = s.link.trace ++ wakeEvents s wrx ++ bracketEvents s.commandFrame frx ∧
      requestBody s = afterSend (((s.encoded.setAwake true).setPhase .frameSent).setLink l) := by
  have he : loadFrame s.opcode s.args (storeBudgets s) = .ok () s.encoded := by
    rw [loadFrame, encodeFrame_ok _ (by simp; omega)]; rfl
  have hsend : ∀ u : State, u.link.script = f ++ rest → ∃ frx,
      sendCommand u = .ok () ((u.setPhase .frameSent).setLink (u.link.afterBracket u.txbuf frx)) := fun u hu =>
    ⟨_, by rw [sendCommand, sendFrame, bracket_hands _ discard_storesBuffer hu hf]; rfl⟩
  rw [requestBody_eq, startRequest, he, bind_ok, wakeIfNeeded]
  unfold wakeEvents
  cases ha : s.awake with
  | true =>
    have := h1 ha
    subst this
    rw [if_pos (show s.encoded.awake = true from ha), bind_ok, bind_ok]
    obtain ⟨frx, hse⟩ := hsend (s.encoded.setPhase .wokenUp) (by simpa [State.encoded] using hs)
    rw [hse, bind_ok]
    refine ⟨[], frx, s.link.afterBracket s.commandFrame frx, afterBracket_rest (by simpa using hs) hf, rfl, rfl, rfl,
      by simp, ?_⟩
    have : s.encoded = s.encoded.setAwake true := by rw [← ha]; rfl
    rw [← this]; rfl
  | false =>
    obtain ⟨wb, hw⟩ := h2 ha
    rw [if_neg (show ¬ s.encoded.awake = true by rw [show s.encoded.awake = s.awake from rfl, ha]; simp)]
    obtain ⟨wrx, hwe⟩ : ∃ wrx, wakeStep s.encoded =
        .ok () ((s.encoded.setAwake true).setLink (s.link.afterBracket s.cfg.wakeSeq wrx)) :=
      ⟨_, by rw [wakeStep, bracket_hands _ discard_storesBuffer (s := s.encoded) hs hw]; rfl⟩
    have h3 : (s.link.afterBracket s.cfg.wakeSeq wrx).script = f ++ rest := afterBracket_rest hs hw
    obtain ⟨frx, hse⟩ := hsend
      (((s.encoded.setAwake true).setLink (s.link.afterBracket s.cfg.wakeSeq wrx)).setPhase .wokenUp) h3
    rw [hwe, bind_ok, bind_ok, hse, bind_ok]
    exact ⟨wrx, frx, (s.link.afterBracket s.cfg.wakeSeq wrx).afterBracket s.commandFrame frx,
      afterBracket_rest h3 hf, rfl, rfl, rfl, by simp, rfl⟩

/-- The ACK wait where the signal is true after n failed attempts and six bytes are read (R222). -/
theorem ackWait_read {v : State} {q a rest : List Answer} {r : Answer} {b : List Byte} {n : Nat} (m : Nat)
    (hs : v.link.script = q ++ r :: (a ++ rest)) (hq : Quiet n q) (hn : n < v.polllim.toNat - v.pollcnt.toNat)
    (hr : Raised r) (ha : Hands b a) (hb : b.length = 6) :
    ∃ l, l.script = rest ∧ l.sel = false ∧ l.elapsedMs = v.link.elapsedMs + n * v.cfg.intervalMs.toNat ∧
      l.calls = v.link.calls + 2 * n + 4 ∧
      l.trace = v.link.trace ++ waitEvents v.cfg.intervalMs.toNat n ++ [.ready (some true)] ++
        bracketEvents v.ackProbe b ∧
      ackWait (m + 1) v =
        match ackMatch b with
        | .ack => .ok () (v.acked b n l)
        | .nak => .err .nakReceived (v.acked b n l)
        | .neither => (failedAttempt (v.acked b n l)).bind fun _ s => ackWait m s := by
  have hsc : ((v.link.afterWait v.cfg.intervalMs.toNat n).afterRaised).script = a ++ rest := by
    have := waited_script hs hq
    simp [State.waited] at this
    simp [this]
  have h2 : readAck ((v.waited n).setLink (v.link.afterWait v.cfg.intervalMs.toNat n).afterRaised) =
      .ok () (v.acked b n (((v.link.afterWait v.cfg.intervalMs.toNat n).afterRaised).afterBracket v.ackProbe b)) := by
    rw [readAck, bracket_hands _ storeAck_storesBuffer (as := a) (rest := rest) hsc ha, List.length_replicate, ← hb,
      padReceived_full, hb]
    rfl
  refine ⟨((v.link.afterWait v.cfg.intervalMs.toNat n).afterRaised).afterBracket v.ackProbe b,
    afterBracket_rest hsc ha, rfl, rfl, by simp, by simp, ?_⟩
  rw [ackWait, poll_isReady hs hq hn hr, bind_ok]
  simp only [h2, bind_ok]
  rfl

/-- The response wait where the signal is true after n failed attempts and RX_COUNT bytes are read (R225). -/
theorem responseWait_read {v : State} {q a rest : List Answer} {r : Answer} {b : List Byte} {n : Nat}
    (hs : v.link.script = q ++ r :: (a ++ rest)) (hq : Quiet n q) (hn : n < v.polllim.toNat - v.pollcnt.toNat)
    (hr : Raised r) (ha : Hands b a) (hb : b.length = v.cfg.rxCount.toNat) :
    ∃ l, l.script = rest ∧ l.sel = false ∧ l.elapsedMs = v.link.elapsedMs + n * v.cfg.intervalMs.toNat ∧
      l.calls = v.link.calls + 2 * n + 4 ∧
      l.trace = v.link.trace ++ waitEvents v.cfg.intervalMs.toNat n ++ [.ready (some true)] ++
        bracketEvents v.respProbe b ∧
      responseWait v =
        match decodeFrame b with
        | .ok (tfi, payload) => acceptResponse tfi payload (v.responded b n l)
        | .err e => .err e (v.responded b n l) := by
  have hsc : ((v.link.afterWait v.cfg.intervalMs.toNat n).afterRaised).script = a ++ rest := by
    have := waited_script hs hq
    simp [State.waited] at this
    simp [this]
  have h2 : readResp ((v.waited n).setLink (v.link.afterWait v.cfg.intervalMs.toNat n).afterRaised) =
      .ok () (v.responded b n
        (((v.link.afterWait v.cfg.intervalMs.toNat n).afterRaised).afterBracket v.respProbe b)) := by
    rw [readResp, bracket_hands _ storeResp_storesBuffer (as := a) (rest := rest) hsc ha, List.length_replicate,
      show ((v.waited n).setLink (v.link.afterWait v.cfg.intervalMs.toNat n).afterRaised).cfg = v.cfg from rfl, ← hb,
      padReceived_full, hb]
    rfl
  refine ⟨((v.link.afterWait v.cfg.intervalMs.toNat n).afterRaised).afterBracket v.respProbe b,
    afterBracket_rest hsc ha, rfl, rfl, by simp, by simp, ?_⟩
  rw [responseWait, poll_isReady hs hq hn hr, bind_ok]
  simp only [h2, bind_ok]
  rfl

end Sys2Proof.Machine
end

