-- ==== Sys2Proof/Laws/PerInstr.lean ====
section
/-! SUPPORT. One lemma per constructor of Instr: the length of an encoding (R90, R93, R94, R96, R104). -/

namespace Sys2Proof.Laws.EncodedLength
open Sys2Proof Sys2Proof.Machine

/-- An instruction that has an encoding has one of 1 to 262 bytes (R96, R104). -/
def Statement (i : Instr) : Prop := ∀ bytes, encode i = some bytes → 1 ≤ bytes.length ∧ bytes.length ≤ 262

/-- A frame has 8 to 262 bytes (R96). -/
theorem frame_length {tfi : Byte} {p bytes : List Byte} (h : frameOf tfi p = some bytes) :
    1 ≤ bytes.length ∧ bytes.length ≤ 262 := by
  rw [frameOf] at h
  split at h
  · rename_i f hf
    injection h with h
    obtain ⟨hp, rfl⟩ := encodeFrame_eq_ok hf
    rw [← h, wireFrame_length]
    omega
  · cases h

theorem encode : Statement .encode := fun _ h => by cases h; decide
theorem decode : Statement .decode := fun _ h => by cases h; decide
theorem request : Statement .request := fun _ h => by cases h; decide
theorem wake : Statement .wake := fun _ h => by cases h; decide
theorem lcs (a : Byte) : Statement (.lcs a) := nofun
theorem dcs (a : Byte) (b : List Byte) : Statement (.dcs a b) := nofun
theorem ackmatch : Statement .ackmatch := nofun
theorem expect : Statement .expect := nofun
theorem correlate (a : Byte) (b : List Byte) : Statement (.correlate a b) := nofun
theorem limit (a : Word16) : Statement (.limit a) := nofun
theorem split : Statement .split := nofun
theorem poll : Statement .poll := nofun
theorem wakeStep : Statement .wakeStep := nofun
theorem sendframe : Statement .sendframe := nofun
theorem readack : Statement .readack := nofun
theorem readresp : Statement .readresp := nofun
theorem ack : Statement .ack := fun _ h => by cases h; decide
theorem nak : Statement .nak := fun _ h => by cases h; decide
theorem info (a : Byte) (b : List Byte) : Statement (.info a b) := fun _ => frame_length
theorem infoCmd (a : Byte) (b : List Byte) : Statement (.infoCmd a b) := fun _ => frame_length
theorem infoRsp (a : Byte) (b : List Byte) : Statement (.infoRsp a b) := fun _ => frame_length
theorem wakeup : Statement .wakeup := nofun
theorem getFirmwareVersion (a : Timeout) : Statement (.getFirmwareVersion a) := nofun
theorem samConfiguration (a : SamMode) (b : Byte) (c : Bool) (d : Timeout) : Statement (.samConfiguration a b c d) := nofun
theorem readPassiveTarget (a : Byte) (b : Timeout) : Statement (.readPassiveTarget a b) := nofun
theorem inDataExchange (a : List Byte) (b : Timeout) : Statement (.inDataExchange a b) := nofun

end Sys2Proof.Laws.EncodedLength
end

