-- ==== Sys2Proof/Tests/Slice0.lean ====
section
/-! SUPPORT. Tests on the vectors of 95_test_vectors.md, smoke tests of WellFormed and of the decoder, and for every
obligation with hypotheses a witness that meets them. -/

namespace Sys2Proof.Tests
set_option Elab.async false
open Sys2Proof Sys2Proof.Machine

/-! ### Helpers -/

/-- A condition on the next state. -/
def nextIs (o : Host.Outcome State Fault Refusal) (p : State → Bool) : Bool :=
  match o with
  | .next s => p s
  | .fault _ => false
  | .refused _ => false

/-- Refused under this name. -/
def refusedAs (o : Host.Outcome State Fault Refusal) (r : Refusal) : Bool :=
  match o with
  | .next _ => false
  | .fault _ => false
  | .refused r' => r' == r

/-- Bytes as a table word: the first byte least significant (DESIGN CHOICE, log entry 28). -/
def word : List Byte → Nat
  | [] => 0
  | b :: bs => b.toNat + 256 * word bs

/-- A primitive that returns; a sample that is true; an exchange that returns bytes; a fault. -/
def fine : Answer := ⟨false, false, []⟩
def high : Answer := ⟨false, true, []⟩
def give (b : List Byte) : Answer := ⟨false, false, b⟩
def bad : Answer := ⟨true, false, []⟩

/-- The answers to a bracket; the answers to n attempts that are not ready. -/
def hand (b : List Byte) : List Answer := [fine, give b, fine]
def quiet (n : Nat) : List Answer := List.replicate (2 * n) fine

theorem hands_hand (b : List Byte) : Hands b (hand b) := ⟨_, _, _, rfl, rfl, rfl, rfl, rfl⟩

theorem quiet_quiet (n : Nat) : Quiet n (quiet n) :=
  ⟨List.length_replicate, fun a h => by rw [List.eq_of_mem_replicate h]; decide⟩

theorem raised_high : Raised high := ⟨rfl, rfl⟩

/-- Instance B of section 3: interval 10, three attempts, 13 bytes read. -/
def cfgB : Config where
  intervalMs := 10
  maxAttempts := 3
  rxCount := 13
  txFill := 0
  wakeSeq := [0]
  interval_pos := by decide
  attempts_pos := by decide
  rxCount_legal := by decide
  wakeSeq_legal := by decide

/-- A configuration with interval 7 (vector V52). -/
def cfg7 : Config where
  intervalMs := 7
  maxAttempts := 65535
  rxCount := 8
  txFill := 0
  wakeSeq := [0]
  interval_pos := by decide
  attempts_pos := by decide
  rxCount_legal := by decide
  wakeSeq_legal := by decide

/-- A state of instance B in a phase, with a script. -/
def inPhase (p : Phase) (script : List Answer) : State :=
  { State.construct cfgB with phase := p, polllim := 3, opcode := 0x02, link := { Link.reset with script := script } }

/-- A request about to be made on instance B: opcode 02, no arguments, dual timeouts of 20 and 25 ms. -/
def asking (awake : Bool) (script : List Answer) : State :=
  { inPhase .idle script with tmode := .dual, t1 := 20, t2 := 25, awake := awake }

/-- The frame F of section 2.3. -/
def frameF : List Byte := [0x00, 0x00, 0xFF, 0x06, 0xFA, 0xD5, 0x03, 0x32, 0x01, 0x06, 0x07, 0xE8, 0x00]

/-- The script of a success: wake-up, frame, one attempt not ready, ACK, two attempts not ready, F. -/
def successScript : List Answer :=
  hand [0] ++ (hand [] ++ (quiet 1 ++ high :: (hand ackFrame ++ (quiet 2 ++ high :: (hand frameF ++ [])))))

/-- The script of program P1, for a request that wakes the chip, and the state it starts from. -/
def scriptP1 (response : List Byte) : List Answer :=
  hand [0] ++ hand [] ++ quiet 1 ++ [high] ++ hand ackFrame ++ quiet 2 ++ [high] ++
    hand (response ++ List.replicate (262 - response.length) 0)

def startP1 (response : List Byte) : State :=
  { State.reset with
    opcode := 0x02, tmode := .single, t1 := 1000, link := { Link.reset with script := scriptP1 response } }

/-! ### WellFormed: an ill-formed term for each check -/

/-- One byte too many is refused, the most is not (R96, R98, R22). -/
theorem test_wellFormed_dcs :
    WellFormed (.dcs 0xD4 (List.replicate 255 0)) = false ∧ WellFormed (.dcs 0xD4 (List.replicate 254 0)) = true := by decide +kernel

/-- One byte too many is refused, the most is not (R96, R98, R22). -/
theorem test_wellFormed_correlate :
    WellFormed (.correlate 0xD5 (List.replicate 255 0)) = false ∧ WellFormed (.correlate 0xD5 (List.replicate 254 0)) = true := by decide +kernel

/-- One byte too many is refused, the most is not (R96, R98, R22). -/
theorem test_wellFormed_info :
    WellFormed (.info 0xD4 (List.replicate 255 0)) = false ∧ WellFormed (.info 0xD4 (List.replicate 254 0)) = true := by decide +kernel

/-- One byte too many is refused, the most is not (R96, R98, R22). -/
theorem test_wellFormed_infoCmd :
    WellFormed (.infoCmd 0x02 (List.replicate 254 0)) = false ∧ WellFormed (.infoCmd 0x02 (List.replicate 253 0)) = true := by decide +kernel

/-- One byte too many is refused, the most is not (R96, R98, R22). -/
theorem test_wellFormed_infoRsp :
    WellFormed (.infoRsp 0x03 (List.replicate 254 0)) = false ∧ WellFormed (.infoRsp 0x03 (List.replicate 253 0)) = true := by decide +kernel

/-- One byte too many is refused, the most is not (R96, R98, R22). -/
theorem test_wellFormed_inDataExchange :
    WellFormed (.inDataExchange (List.replicate 256 0) (.single 0)) = false ∧ WellFormed (.inDataExchange (List.replicate 255 0) (.single 0)) = true := by decide +kernel

/-! ### The decoder: words from 30_encoding.md and section 2 -/

/-- R104. -/
theorem test_decode_selectors :
    decodeTableWord 8 0x01 = some .encode ∧ decodeTableWord 8 0x02 = some .decode ∧
      decodeTableWord 8 0x03 = some .request ∧ decodeTableWord 8 0x04 = some .wake := by decide +kernel

/-- V71. -/
theorem test_decode_reserved_selectors :
    decodeTableWord 8 0x00 = none ∧ decodeTableWord 8 0x05 = none ∧ decodeTableWord 8 0x06 = none ∧
      decodeTableWord 8 0x07 = none ∧ decodeTableWord 8 0x0B = none := by decide +kernel

/-- S1. -/
theorem test_decode_ack_nak :
    decodeTableWord 48 (word [0x00, 0x00, 0xFF, 0x00, 0xFF, 0x00]) = some .ack ∧
      decodeTableWord 48 (word [0x00, 0x00, 0xFF, 0xFF, 0x00, 0x00]) = some .nak := by decide +kernel

/-- V7, V12a. -/
theorem test_decode_infoCmd :
    decodeTableWord 72 (word [0x00, 0x00, 0xFF, 0x02, 0xFE, 0xD4, 0x02, 0x2A, 0x00]) = some (.infoCmd 0x02 []) ∧
      decodeTableWord 96
          (word [0x00, 0x00, 0xFF, 0x05, 0xFB, 0xD4, 0x14, 0x01, 0x14, 0x01, 0x02, 0x00]) =
        some (.infoCmd 0x14 [0x01, 0x14, 0x01]) := by decide +kernel

/-- V9. -/
theorem test_decode_infoRsp :
    decodeTableWord 104 (word frameF) = some (.infoRsp 0x03 [0x32, 0x01, 0x06, 0x07]) := by decide +kernel

/-- V8, V12. -/
theorem test_decode_info :
    decodeTableWord 64 (word [0x00, 0x00, 0xFF, 0x01, 0xFF, 0xD5, 0x2B, 0x00]) = some (.info 0xD5 []) ∧
      decodeTableWord 72 (word [0x00, 0x00, 0xFF, 0x02, 0xFE, 0x00, 0x00, 0x00, 0x00]) = some (.info 0x00 [0x00]) := by decide +kernel

/-- V13, V24, V25, V27a, V32b. -/
theorem test_decodeFrame_accepts :
    decodeFrame frameF = .ok (0xD5, [0x03, 0x32, 0x01, 0x06, 0x07]) ∧
      decodeFrame (frameF ++ [0xAA, 0xBB]) = .ok (0xD5, [0x03, 0x32, 0x01, 0x06, 0x07]) ∧
      decodeFrame (frameF.set 12 0x55) = .ok (0xD5, [0x03, 0x32, 0x01, 0x06, 0x07]) ∧
      decodeFrame ((frameF.set 3 0x07).set 4 0xF9 ++ [0x00]) = .ok (0xD5, [0x03, 0x32, 0x01, 0x06, 0x07, 0xE8]) ∧
      decodeFrame ((frameF.set 7 0x03).set 6 0x32) = .ok (0xD5, [0x32, 0x03, 0x01, 0x06, 0x07]) := by decide +kernel

/-- V15, V16, V19, V30. -/
theorem test_decodeFrame_badPreamble :
    decodeFrame [] = .err .badPreamble ∧ decodeFrame [0x00, 0x00] = .err .badPreamble ∧
      decodeFrame (0xFF :: frameF) = .err .badPreamble ∧ decodeFrame (0x00 :: frameF) = .err .badPreamble ∧
      decodeFrame ((frameF.set 0 0x01).set 4 0xFB) = .err .badPreamble := by decide +kernel

/-- V17, V18, V18a, V22, V23, V27, V29. -/
theorem test_decodeFrame_truncated :
    decodeFrame [0x00, 0x00, 0xFF] = .err .truncated ∧ decodeFrame [0x00, 0x00, 0xFF, 0x02] = .err .truncated ∧
      decodeFrame (frameF.take 5) = .err .truncated ∧ decodeFrame [0x00, 0x00, 0xFF, 0x00, 0x00] = .err .truncated ∧
      decodeFrame (frameF.take 12) = .err .truncated ∧ decodeFrame ((frameF.set 3 0x07).set 4 0xF9) = .err .truncated ∧
      decodeFrame [0x00, 0x00, 0xFF, 0x06, 0xFA, 0xD5, 0xFF, 0xFF] = .err .truncated := by decide +kernel

/-- V20, V21, V26a to V26c, V27b, V28, V32a. -/
theorem test_decodeFrame_checksumMismatch :
    decodeFrame [0x00, 0x00, 0xFF, 0x00, 0xFF, 0x00] = .err .checksumMismatch ∧
      decodeFrame [0x00, 0x00, 0xFF, 0xFF, 0x00, 0x00] = .err .checksumMismatch ∧
      decodeFrame (frameF.set 4 0xFB) = .err .checksumMismatch ∧
      decodeFrame (frameF.set 11 0xE9) = .err .checksumMismatch ∧
      decodeFrame (frameF.set 3 0x07) = .err .checksumMismatch ∧
      decodeFrame ((frameF.set 3 0x05).set 4 0xFB) = .err .checksumMismatch ∧
      decodeFrame [0x00, 0x00, 0xFF, 0x06, 0xFB, 0xD5] = .err .checksumMismatch ∧
      decodeFrame [0x00, 0x00, 0xFF, 0xFF, 0xFF, 0x00, 0x01, 0xD5] = .err .checksumMismatch := by decide +kernel

/-- V8, V10, V12. -/
theorem test_encodeFrame :
    encodeFrame 0xD4 [] = .ok [0x00, 0x00, 0xFF, 0x01, 0xFF, 0xD4, 0x2C, 0x00] ∧
      encodeFrame 0x7F [] = .ok [0x00, 0x00, 0xFF, 0x01, 0xFF, 0x7F, 0x81, 0x00] ∧
      encodeFrame 0xD5 (List.replicate 254 0xFF) =
        .ok ([0x00, 0x00, 0xFF, 0xFF, 0x01, 0xD5] ++ List.replicate 254 0xFF ++ [0x29, 0x00]) := by decide +kernel

/-- The placed instruction is what the next step runs. -/
theorem test_fetch_word :
    step (State.reset.withFetchWord 8 0x03) = exec .request State.reset := rfl

/-- The ACK placed in the ACK wait, a command frame in WokenUp, F in the response wait. -/
theorem test_fetch_word_links :
    nextIs (step (State.reset.withFetchWord 48 (word ackFrame))) (fun t => t.phase == .awaitingResponse) = true ∧
      (State.reset.withFetchWord 72 (word [0x00, 0x00, 0xFF, 0x02, 0xFE, 0xD4, 0x02, 0x2A, 0x00])).txbuf =
        [0x00, 0x00, 0xFF, 0x02, 0xFE, 0xD4, 0x02, 0x2A, 0x00] ∧
      nextIs (step (({ State.reset with opcode := 0x02 } : State).withFetchWord 104 (word frameF)))
        (fun t => t.status == .ok && t.rdata == [0x32, 0x01, 0x06, 0x07]) = true := by decide +kernel

/-! ### The instructions -/

/-- V72. -/
theorem test_encode :
    nextIs (exec .encode { State.reset with cinTfi := 0xD4, cin := [0x02] })
      (fun t => t.status == .ok && t.rdata == [0x00, 0x00, 0xFF, 0x02, 0xFE, 0xD4, 0x02, 0x2A, 0x00] && t.rlen == 9) = true := by decide +kernel

/-- V75. -/
theorem test_encode_tooLarge :
    nextIs (exec .encode { State.reset with cin := List.replicate 255 0, rdata := [0x01] })
      (fun t => t.status.code == 2 && t.rlen == 0 && t.phase == .idle) = true := by decide +kernel

/-- V73. -/
theorem test_decode :
    nextIs (exec .decode { State.reset with din := frameF })
      (fun t => t.status.code == 1 && t.rtfi == 0xD5 && t.rdata == [0x03, 0x32, 0x01, 0x06, 0x07]) = true := by decide +kernel

/-- V74: RTFI is kept. -/
theorem test_decode_failure :
    nextIs (exec .decode { State.reset with din := ackFrame, rtfi := 0xD5, rdata := [0x03] })
      (fun t => t.status.code == 4 && t.rlen == 0 && t.rtfi == 0xD5) = true := by decide +kernel

/-- P1. -/
theorem test_request :
    nextIs (exec .request (startP1 frameF)) (fun t =>
      (t.phase == .idle && t.status == .ok && t.rdata == [0x32, 0x01, 0x06, 0x07] && t.awake) &&
        (t.pollcnt == 2 && t.polllim == 50 && t.link.elapsedMs == 30 && t.link.calls == 20 && !t.link.sel)) = true := by decide +kernel

/-- P8: the Exchange of the frame write faults. -/
theorem test_request_fault :
    nextIs (exec .request { startP1 frameF with link := { Link.reset with script := hand [0] ++ [fine, bad] } })
      (fun t => t.status.code == 10 && !t.awake && t.phase == .idle && t.link.sel && t.link.calls == 5) = true := by decide +kernel

/-- V69. -/
theorem test_wake :
    nextIs (exec .wake { inPhase .idle (hand [0x5A]) with awake := true })
      (fun t => t.status.code == 1 && t.rlen == 0 && t.awake && t.phase == .idle &&
        t.link.trace == bracketEvents [0x00] [0x5A]) = true := by decide +kernel

/-- V70. -/
theorem test_wake_fault :
    nextIs (exec .wake { inPhase .idle [bad] with awake := true })
      (fun t => t.status.code == 10 && !t.awake && t.phase == .idle && t.link.trace == [.select true false]) = true := by decide +kernel

/-- V2. -/
theorem test_lcs :
    nextIs (exec (.lcs 0x06) State.reset) (fun t => t.ret == .byte 0xFA) = true := by decide +kernel

/-- V3, V4. -/
theorem test_lcs_corners :
    lcs 0xFF = 0x01 ∧ lcs 0x80 = 0x80 ∧ lcs 0x00 = 0x00 ∧ lcs 0x0C = 0xF4 := by decide +kernel

/-- V6. -/
theorem test_dcs :
    nextIs (exec (.dcs 0xD4 [0x14, 0x01, 0x14, 0x01]) State.reset) (fun t => t.ret == .byte 0x02) = true := by decide +kernel

/-- V6: carries are discarded, a sum that is 0. -/
theorem test_dcs_corners :
    dcs 0xD4 [0x80, 0x80] = 0x2C ∧ dcs 0xD5 [0x2B] = 0x00 ∧ dcs 0xD4 [] = 0x2C := by decide +kernel

/-- V33. -/
theorem test_ackmatch :
    nextIs (exec .ackmatch { State.reset with ackbuf := [0x00, 0x00, 0xFF, 0x00, 0xFF, 0x00] })
      (fun t => t.ret == .ackClass .ack) = true := by decide +kernel

/-- V34, V35, V37, V38. -/
theorem test_ackmatch_neither :
    ackMatch [0x00, 0x00, 0xFF, 0xFF, 0x00, 0x00] = .nak ∧ ackMatch [0x00, 0x00, 0xFF, 0x00, 0xFF, 0x01] = .neither ∧
      ackMatch (frameF.take 6) = .neither ∧ ackMatch [0x00, 0xFF, 0x00, 0xFF, 0x00, 0x00] = .neither := by decide +kernel

/-- V39. -/
theorem test_expect :
    nextIs (exec .expect { State.reset with opcode := 0xFF }) (fun t => t.ret == .byte 0x00) = true := by decide +kernel

/-- V46. -/
theorem test_correlate :
    nextIs (exec (.correlate 0xD5 [0x00, 0xAA]) { State.reset with opcode := 0xFF })
      (fun t => t.ret == .data [0xAA]) = true := by decide +kernel

/-- V42 to V45. -/
theorem test_correlate_errors :
    correlate 0x02 0xD5 [] = .err .truncated ∧ correlate 0x02 0xD4 [] = .err .opcodeMismatch ∧
      correlate 0x02 0xD5 [0x15] = .err .opcodeMismatch ∧ correlate 0x02 0xD5 [0x02, 0x01] = .err .opcodeMismatch := by decide +kernel

/-- V50: the attempt bound cuts the budget short. -/
theorem test_limit :
    nextIs (exec (.limit 50) (State.construct cfgB)) (fun t => t.polllim == 3) = true := by decide +kernel

/-- V48, V49, V51, V52. -/
theorem test_limit_rounds_up :
    limit Config.suggested 51 = 6 ∧ limit Config.suggested 0 = 0 ∧ limit Config.suggested 11 = 2 ∧
      limit Config.suggested 65535 = 6554 ∧ limit cfg7 50 = 8 := by decide +kernel

/-- V53, V54. -/
theorem test_split_single :
    splitBudgets .single 25 7 = (12, 13) ∧ splitBudgets .single 1 7 = (0, 1) ∧
      splitBudgets .single 65535 7 = (32767, 32768) := by decide +kernel

/-- V55. -/
theorem test_split_dual :
    nextIs (exec .split { State.reset with tmode := .dual, t1 := 0, t2 := 65535 })
      (fun t => t.tack == 0 && t.tresp == 65535) = true := by decide +kernel

/-- V56. -/
theorem test_poll :
    nextIs (exec .poll { inPhase .idle (quiet 2 ++ [high]) with polllim := 5 })
      (fun t => t.ret == .poll .isReady && t.pollcnt == 2 && t.link.elapsedMs == 20 && t.link.calls == 5) = true := by decide +kernel

/-- V59b. -/
theorem test_poll_fault :
    nextIs (exec .poll { inPhase .idle [fine, bad] with polllim := 5 })
      (fun t => t.status.code == 10 && t.pollcnt == 0) = true := by decide +kernel

/-- R196. -/
theorem test_wakeStep :
    nextIs (exec .wakeStep (inPhase .idle (hand [0xFF])))
      (fun t => t.awake && t.link.trace == bracketEvents [0x00] [0xFF] && t.status == .none) = true := by decide +kernel

/-- V66. -/
theorem test_sendframe :
    nextIs (exec .sendframe 
      { inPhase .wokenUp (hand (List.replicate 9 0xA5)) with
        txbuf := [0x00, 0x00, 0xFF, 0x02, 0xFE, 0xD4, 0x02, 0x2A, 0x00] })
      (fun t => t.link.trace ==
        bracketEvents [0x00, 0x00, 0xFF, 0x02, 0xFE, 0xD4, 0x02, 0x2A, 0x00] (List.replicate 9 0xA5)) = true := by decide +kernel

/-- V67. -/
theorem test_readack :
    nextIs (exec .readack (inPhase .awaitingAck (hand ackFrame)))
      (fun t => t.ackbuf == ackFrame && t.link.trace == bracketEvents (List.replicate 6 0x00) ackFrame) = true := by decide +kernel

/-- V68. -/
theorem test_readresp :
    nextIs (exec .readresp (inPhase .awaitingResponse (hand frameF)))
      (fun t => t.rxbuf == frameF && t.rxlen == 13 && t.link.trace == bracketEvents (List.replicate 13 0x00) frameF) = true := by decide +kernel

/-- R222, R99: an ACK opens the response wait, and fails as a response. -/
theorem test_ack :
    nextIs (exec .ack { inPhase .awaitingAck [] with tresp := 25, pollcnt := 2 })
      (fun t => t.phase == .awaitingResponse && t.pollcnt == 0 && t.polllim == 3) = true ∧
      nextIs (exec .ack (inPhase .awaitingResponse [])) (fun t => t.status.code == 4 && t.phase == .failed) = true := by decide +kernel

/-- P2: AWAKE is kept. -/
theorem test_nak :
    nextIs (exec .nak { inPhase .awaitingAck [] with awake := true })
      (fun t => t.status.code == 7 && t.phase == .failed && t.awake) = true := by decide +kernel

/-- R173 step 1, R222. -/
theorem test_info :
    nextIs (exec (.info 0xD4 [0x02]) { inPhase .awaitingResponse [] with awake := true })
      (fun t => t.status.code == 6 && !t.awake) = true ∧
      nextIs (exec (.info 0xD4 [0x02]) (inPhase .awaitingAck [fine]))
        (fun t => t.pollcnt == 1 && t.phase == .awaitingAck && t.link.trace == [.sleep 10 true]) = true := by decide +kernel

/-- P1, P7: the response of the command, and one of another. -/
theorem test_infoRsp :
    nextIs (exec (.infoRsp 0x03 [0x32, 0x01]) (inPhase .awaitingResponse []))
      (fun t => t.status == .ok && t.rdata == [0x32, 0x01] && t.phase == .done) = true ∧
      nextIs (exec (.infoRsp 0x03 [0x32]) { inPhase .awaitingResponse [] with opcode := 0x14 })
        (fun t => t.status.code == 6 && t.rlen == 0) = true := by decide +kernel

/-- V61: the command frame of SAMConfiguration. -/
theorem test_infoCmd :
    nextIs (exec (.infoCmd 0x14 [0x01, 0x14, 0x01]) (inPhase .wokenUp (hand (List.replicate 12 0x00))))
      (fun t => t.phase == .frameSent && t.link.trace ==
        bracketEvents [0x00, 0x00, 0xFF, 0x05, 0xFB, 0xD4, 0x14, 0x01, 0x14, 0x01, 0x02, 0x00]
          (List.replicate 12 0x00)) = true := by decide +kernel

/-- R101. -/
theorem test_wakeup :
    nextIs (exec .wakeup (inPhase .idle (hand [0x00]))) (fun t => t.awake && t.link.calls == 3) = true := by decide +kernel

/-- V60. -/
theorem test_getFirmwareVersion :
    nextIs (exec (.getFirmwareVersion (.single 1000)) (startP1 frameF))
      (fun t => t.ret == .firmware 0x32 0x01 0x06 0x07) = true := by decide +kernel

/-- V60a. -/
theorem test_getFirmwareVersion_timeout :
    nextIs (exec (.getFirmwareVersion (.single 1)) (startP1 frameF)) (fun t => t.ret == .chipNotResponding .ackTimeout) = true := by decide +kernel

/-- V61. -/
theorem test_samConfiguration :
    nextIs (exec (.samConfiguration .normal 0x14 true (.single 1000))
      (startP1 [0x00, 0x00, 0xFF, 0x02, 0xFE, 0xD5, 0x15, 0x16, 0x00]))
      (fun t => t.ret == .unit && t.args == [0x01, 0x14, 0x01] && t.opcode == 0x14) = true := by decide +kernel

/-- V62. -/
theorem test_readPassiveTarget :
    nextIs (exec (.readPassiveTarget 0x00 (.single 1000))
      (startP1 [0x00, 0x00, 0xFF, 0x0C, 0xF4, 0xD5, 0x4B, 0x01, 0x01, 0x00, 0x04, 0x08, 0x04, 0x00, 0x0A, 0x33, 0xC0,
        0xD1, 0x00]))
      (fun t => t.ret == .uid [0x00, 0x0A, 0x33, 0xC0] && t.args == [0x01, 0x00]) = true := by decide +kernel

/-- V63, V64. -/
theorem test_readPassiveTarget_notFound :
    nextIs (exec (.readPassiveTarget 0x00 (.single 1000))
      (startP1 [0x00, 0x00, 0xFF, 0x03, 0xFD, 0xD5, 0x4B, 0x00, 0xE0, 0x00])) (fun t => t.ret == .targetNotFound) = true ∧
      parseTarget 0x00 [0x01, 0x01, 0x00, 0x04, 0x08] = .error .truncated ∧
      parseTarget 0x00 [0x01, 0x01, 0x00, 0x04, 0x08, 0x04, 0x00, 0x0A, 0x33] = .error .truncated := by decide +kernel

/-- V65. -/
theorem test_inDataExchange :
    nextIs (exec (.inDataExchange [0x01, 0x30, 0x04] (.single 1000))
      (startP1 [0x00, 0x00, 0xFF, 0x05, 0xFB, 0xD5, 0x41, 0x00, 0xDE, 0xAD, 0x5F, 0x00]))
      (fun t => t.ret == .data [0x00, 0xDE, 0xAD]) = true := by decide +kernel

/-- R104, R328, R105: refused with no step. -/
theorem test_refusals :
    refusedAs (step { State.reset with hostq := [.command 0x05] }) .reservedSelector = true ∧
      refusedAs (exec .request (inPhase .awaitingAck [])) .busy = true ∧
      refusedAs (step { State.reset with hostq := [.call .poll] }) .notAHostCall = true := by decide +kernel

/-! ### Witnesses: for every obligation with hypotheses, concrete values that meet them, for each clause -/

theorem witness_ConstructionRefusesIllegalConfig :
    (Config.construct 10 3 8 0 [0]).isSome = true ∧ (Config.construct 10 3 262 0 [0]).isSome = true ∧
      (Config.construct 10 3 7 0 [0]).isSome = false ∧ (Config.construct 10 3 263 0 [0]).isSome = false ∧
      (Config.construct 0 3 8 0 [0]).isSome = false ∧ (Config.construct 10 3 8 0 []).isSome = false := by decide +kernel

theorem witness_LcsIsTwosComplementOfLength :
    ((0xFF : Byte).toNat + (0x01 : Byte).toNat) % 256 = 0 ∧ lcsOk 0xFF 0x01 = true := by decide +kernel

theorem witness_DcsBalancesTheData :
    ([0x32, 0x03] : List Byte).Perm [0x03, 0x32] ∧ dcsOk [0xD5, 0x32, 0x03] (dcs 0xD5 [0x03, 0x32]) = true := by decide +kernel

theorem witness_EncodeBuildsFrameOrFails :
    ({ State.reset with cin := List.replicate 254 0 } : State).cin.length ≤ 254 ∧
      255 ≤ ({ State.reset with cin := List.replicate 255 0 } : State).cin.length ∧
      (List.replicate 253 (0 : Byte)).length ≤ 253 ∧ 254 ≤ (List.replicate 254 (0 : Byte)).length := by decide +kernel

theorem witness_EncodedFrameGuarantees :
    (List.replicate 254 (0xFF : Byte)).length ≤ 254 ∧
      encodeFrame 0xD5 (List.replicate 254 0xFF) =
        .ok ([0x00, 0x00, 0xFF, 0xFF, 0x01, 0xD5] ++ List.replicate 254 0xFF ++ [0x29, 0x00]) := by decide +kernel

/-- Clauses one to three: V16, V18, V26a. -/
theorem witness_DecodeChecksInOrder_header :
    ([0x00, 0x00] : List Byte).take 3 ≠ [0x00, 0x00, 0xFF] ∧
      ([0x00, 0x00, 0xFF, 0x02] : List Byte).take 3 = [0x00, 0x00, 0xFF] ∧
      ([0x00, 0x00, 0xFF, 0x02] : List Byte).length < 5 ∧
      (frameF.set 4 0xFB).take 3 = [0x00, 0x00, 0xFF] ∧ 5 ≤ (frameF.set 4 0xFB).length ∧
      (6 + ((frameF.set 4 0xFB).getD 4 0).toNat) % 256 ≠ 0 := by decide +kernel

/-- Clauses four to six: V23, V26b, V13. -/
theorem witness_DecodeChecksInOrder_data :
    ((frameF.take 12).length < 6 + 7 ∧ ((frameF.take 12).getD 3 0).toNat = 6 ∧
        (6 + ((frameF.take 12).getD 4 0).toNat) % 256 = 0) ∧
      ((frameF.set 11 0xE9).length = 6 + 7 ∧
        (natSum (slice (frameF.set 11 0xE9) 5 11) + ((frameF.set 11 0xE9).getD 11 0).toNat) % 256 ≠ 0) ∧
      (natSum (slice frameF 5 11) + (frameF.getD 11 0).toNat) % 256 = 0 := by decide +kernel

theorem witness_CodecRoundTrip :
    255 ≤ (List.replicate 255 (0 : Byte)).length ∧ (List.replicate 254 (0 : Byte)).length ≤ 254 ∧ decodeFrame frameF = .ok (0xD5, [0x03, 0x32, 0x01, 0x06, 0x07]) := by decide +kernel

theorem witness_DecodeIgnoresPostambleAndTail :
    (frameF.getD 3 0).toNat + 7 ≤ frameF.length ∧ encodeFrame 0xD5 [0x03, 0x32, 0x01, 0x06, 0x07] = .ok frameF := by decide +kernel

/-- Indices 0, 2, 3, 11 and 12: the ends of the three ranges. -/
theorem witness_SingleByteCorruption :
    encodeFrame 0xD5 [0x03, 0x32, 0x01, 0x06, 0x07] = .ok frameF ∧ frameF.length = 13 ∧
      frameF.getD 0 0 ≠ 0x01 ∧ frameF.getD 2 0 ≠ 0xFE ∧ frameF.getD 3 0 ≠ 0x07 ∧ frameF.getD 11 0 ≠ 0xE9 ∧
      frameF.getD 12 0 ≠ 0x55 := by decide +kernel

theorem witness_AckNakAreNoFrames :
    decodeFrame frameF = .ok (0xD5, [0x03, 0x32, 0x01, 0x06, 0x07]) := by decide +kernel

theorem witness_AckMatchComparesSixBytes :
    (inPhase .idle []).ackbuf ≠ ackFrame ∧ (inPhase .idle []).ackbuf ≠ nakFrame ∧
      ({ State.reset with ackbuf := ackFrame } : State).ackbuf = [0x00, 0x00, 0xFF, 0x00, 0xFF, 0x00] ∧
      ({ State.reset with ackbuf := nakFrame } : State).ackbuf = [0x00, 0x00, 0xFF, 0xFF, 0x00, 0x00] := by decide +kernel

theorem witness_CorrelateAcceptsOnlyTheResponse :
    (0xD4 : Byte) ≠ 0xD5 ∧ (0x02 : Byte).toNat ≠ ((inPhase .idle []).opcode.toNat + 1) % 256 ∧
      (0x03 : Byte).toNat = ((inPhase .idle []).opcode.toNat + 1) % 256 ∧
      (0x00 : Byte).toNat = (({ State.reset with opcode := 0xFF } : State).opcode.toNat + 1) % 256 := by decide +kernel

theorem witness_LimitIsTheTighterBound :
    1 ≤ (1 : Word16).toNat ∧ (10 : Word16).toNat ≤ Config.suggested.intervalMs.toNat ∧
      (limit Config.suggested 0, limit Config.suggested 1, limit Config.suggested 10) = (0, 1, 1) := by decide +kernel

theorem witness_SplitPartitionsTheTimeout :
    ({ State.reset with tmode := .dual } : State).tmode = .dual ∧ State.reset.tmode = .single := by decide +kernel

/-- Both clauses at the last attempt that is left. -/
theorem witness_PollOutcomes :
    Quiet 3 (quiet 3) ∧ 3 = (inPhase .idle (quiet 3)).polllim.toNat - (inPhase .idle (quiet 3)).pollcnt.toNat ∧
      (inPhase .idle (quiet 3)).link.script = quiet 3 ++ [] ∧
      Quiet 2 (quiet 2) ∧ 2 < (inPhase .idle (quiet 2 ++ [high])).polllim.toNat - 0 ∧
      (inPhase .idle (quiet 2 ++ [high])).link.script = quiet 2 ++ high :: [] ∧ Raised high := ⟨quiet_quiet 3, by decide +kernel, rfl, quiet_quiet 2, by decide +kernel, rfl, raised_high⟩

theorem witness_PollFaultIsBusFault :
    2 < (inPhase .idle []).polllim.toNat - (inPhase .idle []).pollcnt.toNat ∧ Quiet 2 (quiet 2) ∧
      (inPhase .idle (quiet 2 ++ [bad])).link.script = quiet 2 ++ bad :: [] ∧ bad.fault = true ∧
      (inPhase .idle (quiet 2 ++ [fine, bad])).link.script = quiet 2 ++ fine :: bad :: [] ∧
      fine.fault = false ∧ fine.level = false := ⟨by decide +kernel, quiet_quiet 2, rfl, rfl, rfl, rfl, rfl⟩

/-- A poll without a fault, and one with a fault. -/
theorem witness_PollIsBoundedAlways :
    nextIs (exec .poll (inPhase .idle (quiet 3))) (fun t => t.link.trace.all (fun e => !isFault e) && t.pollcnt == 3) = true ∧
      nextIs (exec .poll (inPhase .idle (quiet 2 ++ [bad]))) (fun t => t.link.trace.any isFault && t.phase == .failed) = true := by decide +kernel

theorem witness_LinkOperationsAreOneBracket :
    (inPhase .idle (hand ackFrame)).link.script = hand ackFrame ++ [] ∧ Hands ackFrame (hand ackFrame) ∧
      ackFrame.length = 6 ∧ (inPhase .idle (hand frameF)).link.script = hand frameF ++ [] ∧
      Hands frameF (hand frameF) ∧ frameF.length = (inPhase .idle []).cfg.rxCount.toNat := ⟨rfl, hands_hand _, rfl, rfl, hands_hand _, rfl⟩

theorem witness_LinkFaultStopsAtOnce :
    ((Instr.wakeStep = .wakeStep ∧ [0x00] = (inPhase .idle []).cfg.wakeSeq) ∧
        List.replicate 13 0x00 = List.replicate (inPhase .idle []).cfg.rxCount.toNat (inPhase .idle []).cfg.txFill) ∧
      (inPhase .idle [bad, fine, fine]).link.script = bad :: fine :: fine :: [] ∧
      (inPhase .idle [fine, bad, fine]).link.script = fine :: bad :: fine :: [] ∧
      (inPhase .idle [fine, fine, bad]).link.script = fine :: fine :: bad :: [] ∧ bad.fault = true ∧ fine.fault = false := by decide +kernel

theorem witness_WakeHostOperation :
    (inPhase .idle (hand [])).phase = .idle ∧ (inPhase .idle (hand [])).link.script = hand [] ++ [] ∧
      Hands [] (hand []) ∧ (inPhase .idle [fine, fine, bad]).link.script = fine :: fine :: bad :: [] ∧
      bad.fault = true ∧ (inPhase .wokenUp []).phase ≠ .idle := ⟨rfl, rfl, hands_hand _, rfl, rfl, by decide⟩

theorem witness_RequestTooLargeTouchesNothing :
    ({ State.reset with args := List.replicate 254 0 } : State).phase = .idle ∧
      254 ≤ ({ State.reset with args := List.replicate 254 0 } : State).args.length := by decide +kernel

/-- A request that wakes the chip; the failed attempts are the most the two bounds allow. -/
theorem witness_RequestSuccess :
    ((asking false successScript).phase = .idle ∧ (asking false successScript).args.length ≤ 253 ∧
        (20, 25) = splitBudgets (asking false []).tmode (asking false []).t1 (asking false []).t2 ∧
        (asking false successScript).link.script = successScript) ∧
      (asking false []).awake = false ∧ Hands [0] (hand [0]) ∧ Hands [] (hand []) ∧ Quiet 1 (quiet 1) ∧
      1 < (limit cfgB 20).toNat ∧ Raised high ∧ Hands ackFrame (hand ackFrame) ∧ Quiet 2 (quiet 2) ∧
      2 < (limit cfgB 25).toNat ∧ Hands frameF (hand frameF) ∧ frameF.length = cfgB.rxCount.toNat ∧
      decodeFrame frameF = .ok (0xD5, ((asking false []).opcode + 1) :: [0x32, 0x01, 0x06, 0x07]) := ⟨by decide +kernel, rfl, hands_hand _, hands_hand _, quiet_quiet 1, by decide +kernel, raised_high, hands_hand _,
      quiet_quiet 2, by decide +kernel, hands_hand _, rfl, by decide +kernel⟩

/-- A request to a chip that is awake, ready at once. -/
theorem witness_RequestSuccess_awake :
    (asking true (hand [] ++ high :: (hand ackFrame ++ high :: (hand frameF ++ [])))).link.script =
        [] ++ (hand [] ++ (quiet 0 ++ high :: (hand ackFrame ++ (quiet 0 ++ high :: (hand frameF ++ []))))) ∧
      (asking true []).awake = true ∧ Quiet 0 (quiet 0) ∧ 0 < (limit cfgB 20).toNat := ⟨rfl, rfl, quiet_quiet 0, by decide +kernel⟩

theorem witness_RequestNak :
    (asking true (hand [] ++ (quiet 1 ++ high :: (hand nakFrame ++ [])))).link.script =
        [] ++ (hand [] ++ (quiet 1 ++ high :: (hand nakFrame ++ []))) ∧
      Quiet 1 (quiet 1) ∧ 1 < (limit cfgB 20).toNat ∧ Hands nakFrame (hand nakFrame) ∧
      (asking true []).awake = true ∧ (asking true []).phase = .idle := ⟨rfl, quiet_quiet 1, by decide +kernel, hands_hand _, rfl, rfl⟩

/-- With a budget of 20 ms, and with none (P13). -/
theorem witness_RequestAckTimeout :
    (asking false (hand [0] ++ (hand [] ++ (quiet 2 ++ [])))).link.script =
        hand [0] ++ (hand [] ++ (quiet 2 ++ [])) ∧
      2 = (limit cfgB 20).toNat ∧ Quiet 2 (quiet 2) ∧
      ((20 : Word16).toNat + cfgB.intervalMs.toNat - 1) / cfgB.intervalMs.toNat ≤ cfgB.maxAttempts.toNat ∧
      0 = (limit cfgB 0).toNat ∧ Quiet 0 (quiet 0) := ⟨rfl, by decide +kernel, quiet_quiet 2, by decide +kernel, by decide +kernel, quiet_quiet 0⟩

theorem witness_RequestResponseTimeout :
    (asking false (hand [0] ++ (hand [] ++ (quiet 1 ++ high :: (hand ackFrame ++ (quiet 3 ++ [])))))).link.script =
        hand [0] ++ (hand [] ++ (quiet 1 ++ high :: (hand ackFrame ++ (quiet 3 ++ [])))) ∧
      1 < (limit cfgB 20).toNat ∧ Quiet 1 (quiet 1) ∧ 3 = (limit cfgB 25).toNat ∧ Quiet 3 (quiet 3) := ⟨rfl, by decide +kernel, quiet_quiet 1, by decide +kernel, quiet_quiet 3⟩

/-- RequestAlwaysEnds, RequestIsBounded, ProcedureEqualsTransitions: their hypotheses on the state. -/
theorem witness_requests_in_idle :
    State.reset.phase = .idle ∧ (asking true []).phase = .idle ∧ (asking false successScript).phase = .idle ∧
      (20, 25) = splitBudgets (asking false []).tmode (asking false []).t1 (asking false []).t2 ∧
      State.reset.tmode = .single := by decide +kernel

/-- OkMeansMatchingResponse, FrameWrittenOnceNoRetry, RequestFrame: a request that answers a next state with STATUS OK. -/
theorem witness_requests_that_succeed :
    nextIs (exec .request (asking false successScript)) (fun t =>
      t.status == .ok && t.rxbuf == frameF && t.rdata == [0x32, 0x01, 0x06, 0x07]) = true ∧
      (asking false successScript).args.length ≤ 253 := by decide +kernel

/-- Both sides of the disjunction are reached. -/
theorem witness_BusFaultIsImmediate :
    nextIs (exec .request (asking false [fine, fine, bad])) (fun t => t.status.code == 10) = true ∧
      nextIs (exec .request (asking false successScript)) (fun t => t.status.code == 1) = true := by decide +kernel

theorem witness_RequestIgnoresStaleRegisters :
    ((asking true []).phase = .idle ∧
        ({ asking true [] with ackbuf := nakFrame, rxbuf := frameF, pollcnt := 7 } : State).phase = .idle) ∧
      (asking true []).link = ({ asking true [] with ackbuf := nakFrame, rxbuf := frameF, pollcnt := 7 } : State).link ∧
      (asking true []).ackbuf ≠ ({ asking true [] with ackbuf := nakFrame } : State).ackbuf := by decide +kernel

theorem witness_PlainTransitions :
    (inPhase .wokenUp (hand [])).phase = .wokenUp ∧ (inPhase .wokenUp (hand [])).link.script = hand [] ++ [] ∧
      Hands [] (hand []) ∧ (inPhase .frameSent []).phase = .frameSent ∧ (inPhase .done []).phase = .done ∧
      (inPhase .failed []).phase = .failed := ⟨rfl, rfl, hands_hand _, rfl, rfl, rfl⟩

/-- POLLCNT at POLLLIM in both waits. -/
theorem witness_BoundReachedTimesOut :
    ({ inPhase .awaitingAck [] with pollcnt := 3 } : State).polllim.toNat ≤
        ({ inPhase .awaitingAck [] with pollcnt := 3 } : State).pollcnt.toNat ∧
      ({ inPhase .awaitingAck [] with pollcnt := 3 } : State).phase = .awaitingAck ∧
      ({ inPhase .awaitingResponse [] with pollcnt := 3 } : State).phase = .awaitingResponse := by decide +kernel

theorem witness_NotReadySleepsAndCounts :
    ({ inPhase .awaitingAck (quiet 1) with pollcnt := 2 } : State).pollcnt.toNat < 3 ∧
      (inPhase .awaitingAck (quiet 1)).link.script = quiet 1 ++ [] ∧ Quiet 1 (quiet 1) ∧
      (inPhase .awaitingAck []).phase = .awaitingAck ∧ (inPhase .awaitingResponse []).phase = .awaitingResponse := ⟨by decide +kernel, rfl, quiet_quiet 1, rfl, rfl⟩

theorem witness_AckWaitReady :
    (inPhase .awaitingAck (high :: (hand ackFrame ++ []))).link.script = high :: (hand ackFrame ++ []) ∧
      Raised high ∧ Hands ackFrame (hand ackFrame) ∧ Hands nakFrame (hand nakFrame) ∧
      Hands (frameF.take 6) (hand (frameF.take 6)) ∧ (frameF.take 6).length = 6 ∧ frameF.take 6 ≠ ackFrame ∧
      frameF.take 6 ≠ nakFrame ∧ fine.fault = false ∧
      (inPhase .awaitingAck (high :: (hand (frameF.take 6) ++ [fine]))).link.script =
        high :: (hand (frameF.take 6) ++ fine :: []) ∧
      (inPhase .awaitingAck []).pollcnt.toNat < (inPhase .awaitingAck []).polllim.toNat := ⟨rfl, raised_high, hands_hand _, hands_hand _, hands_hand _, rfl, by decide +kernel, by decide +kernel, rfl, rfl,
      by decide +kernel⟩

theorem witness_ResponseWaitReady :
    (inPhase .awaitingResponse (high :: (hand frameF ++ []))).link.script = high :: (hand frameF ++ []) ∧
      Raised high ∧ Hands frameF (hand frameF) ∧ frameF.length = (inPhase .awaitingResponse []).cfg.rxCount.toNat ∧
      decodeFrame (frameF.set 11 0xE9) = .err .checksumMismatch ∧ (frameF.set 11 0xE9).length = 13 ∧
      decodeFrame frameF = .ok (0xD5, [0x03, 0x32, 0x01, 0x06, 0x07]) ∧
      correlate 0x14 0xD5 [0x03, 0x32, 0x01, 0x06, 0x07] = .err .opcodeMismatch ∧
      correlate 0x02 0xD5 [0x03, 0x32, 0x01, 0x06, 0x07] = .ok [0x32, 0x01, 0x06, 0x07] := ⟨rfl, raised_high, hands_hand _, rfl, by decide +kernel, rfl, by decide +kernel, by decide +kernel,
      by decide +kernel⟩

/-- AckAndNakByPhase, InformationFrameByPhase. -/
theorem witness_rows_by_phase :
    ((inPhase .awaitingAck [fine]).phase = .awaitingAck ∧ (inPhase .awaitingResponse []).phase = .awaitingResponse ∧
        (inPhase .done []).phase ≠ .awaitingAck ∧ (inPhase .done []).phase ≠ .awaitingResponse) ∧
      (inPhase .awaitingAck [fine]).link.script = fine :: [] ∧ fine.fault = false ∧ (0xD4 : Byte) ≠ 0xD5 ∧
      (0x03 : Byte) = (inPhase .awaitingResponse []).opcode + 1 ∧
      (0x02 : Byte) ≠ (inPhase .awaitingResponse []).opcode + 1 := by decide +kernel

theorem witness_SentRowsByPhase :
    (inPhase .wokenUp (hand [])).phase = .wokenUp ∧ (inPhase .wokenUp (hand [])).link.script = hand [] ++ [] ∧
      Hands [] (hand []) ∧ (List.replicate 253 (0 : Byte)).length ≤ 253 ∧ (inPhase .idle (hand [])).phase = .idle ∧
      (inPhase .idle []).phase ≠ .wokenUp ∧ (inPhase .wokenUp []).phase ≠ .idle := ⟨rfl, rfl, hands_hand _, by decide +kernel, rfl, by decide, by decide⟩

/-- GetFirmwareVersionParses, SamConfigurationIgnoresData, ReadPassiveTargetParses, InDataExchangeReturnsData. -/
theorem witness_command_layer :
    State.reset.phase = .idle ∧ SamMode.dualCard = .dualCard ∧ State.reset.layer.samDual = 0x04 := by decide +kernel

theorem witness_StepRunsDecodedInstruction_host :
    ({ State.reset with hostq := [.command 0x03] } : State).phase = .idle ∧
      ({ State.reset with hostq := [.command 0x03] } : State).hostq = .command 0x03 :: [] ∧
      decode .hostPort [0x03] = .ok .request [] ∧ isPseudo (.getFirmwareVersion (.single 10)) = true ∧
      ({ State.reset with hostq := [.call (.getFirmwareVersion (.single 10))] } : State).hostq =
        .call (.getFirmwareVersion (.single 10)) :: [] ∧
      ({ State.reset with hostq := [.call .poll] } : State).hostq = .call .poll :: [] ∧ isPseudo .poll = false := by decide +kernel

theorem witness_StepRunsDecodedInstruction_ack :
    ∃ t u : State, ready (inPhase .awaitingAck (high :: hand nakFrame)) = .ok true t ∧ readAck t = .ok () u ∧
      decode .toHost u.ackbuf = .ok .nak [] := ⟨_, _, rfl, rfl, by decide +kernel⟩

theorem witness_StepRunsDecodedInstruction_response :
    ∃ t u : State, ready (inPhase .awaitingResponse (high :: hand frameF)) = .ok true t ∧ readResp t = .ok () u ∧
      decodeFrame u.rxbuf = .ok (0xD5, [0x03, 0x32, 0x01, 0x06, 0x07]) := ⟨_, _, rfl, rfl, by decide +kernel⟩

/-- The bytes on both sides of the four selectors. -/
theorem witness_SelectorsAndReservedBytes :
    ({ State.reset with hostq := [.command 0x00] } : State).hostq = .command 0x00 :: [] ∧
      ({ State.reset with hostq := [.command 0x05] } : State).hostq = .command 0x05 :: [] ∧
      ({ State.reset with hostq := [.command 0x04] } : State).hostq = .command 0x04 :: [] := by decide +kernel

theorem witness_HostWritesOneRegister :
    ({ State.reset with hostq := [.write (.opcode 0xFF)] } : State).hostq = .write (.opcode 0xFF) :: [] ∧
      ({ State.reset with hostq := [.write (.args [])] } : State).hostq = .write (.args []) :: [] ∧
      ({ State.reset with hostq := [.write (.tmode .dual)] } : State).hostq = .write (.tmode .dual) :: [] ∧
      ({ State.reset with hostq := [.write (.t1 65535)] } : State).hostq = .write (.t1 65535) :: [] ∧
      ({ State.reset with hostq := [.write (.t2 0)] } : State).hostq = .write (.t2 0) :: [] ∧
      ({ State.reset with hostq := [.write (.cinTfi 0xD4)] } : State).hostq = .write (.cinTfi 0xD4) :: [] ∧
      ({ State.reset with hostq := [.write (.cin [])] } : State).hostq = .write (.cin []) :: [] ∧
      ({ State.reset with hostq := [.write (.din frameF)] } : State).hostq = .write (.din frameF) :: [] := by decide +kernel

theorem witness_BusyGivesHostNoMove :
    (inPhase .wokenUp []).phase ≠ .idle ∧ (inPhase .failed []).phase ≠ .idle ∧
      isPseudo (.inDataExchange [] (.single 0)) = true := by decide +kernel

/-- R30: STATUS = NONE and RLEN = 0 are readable after reset, nothing is while busy. -/
theorem witness_HostReadsResultsInIdle :
    ({ State.reset with status := .ok } : State).readResults = some ⟨1, 0, 0, some []⟩ ∧
      State.reset.readResults = some ⟨0, 0, 0, none⟩ ∧ (inPhase .done []).readResults = none := by decide +kernel

theorem witness_EncodeDecodeRoundTrip :
    (WellFormed (.infoCmd 0x40 (List.replicate 253 0)) = true ∧
        (encode (.infoCmd 0x40 (List.replicate 253 0))).isSome = true) ∧
      WellFormed (.info 0xD5 []) = true ∧ encode (.info 0xD5 []) = some [0x00, 0x00, 0xFF, 0x01, 0xFF, 0xD5, 0x2B, 0x00] ∧
      encode .wake = some [0x04] ∧ encode .ack = some ackFrame := by decide +kernel

theorem witness_StepKeepsInvariant :
    ({ State.construct cfgB with hostq := [.write (.t1 5)] } : State).Inv ∧
      nextIs (step { State.construct cfgB with hostq := [.write (.t1 5)] }) (fun t => t.t1 == 5) = true := by
  refine ⟨⟨by unfold BuffersFit; decide +kernel, by decide +kernel, by unfold PollBounded; decide +kernel, ⟨nofun, nofun, nofun⟩,
    nofun, by unfold ClockAgrees; decide +kernel⟩, by decide +kernel⟩

theorem witness_BracketsStayClosed :
    LinkClosed (inPhase .wokenUp (hand [])) ∧
      nextIs (step (inPhase .wokenUp (hand []))) (fun t => t.phase == .frameSent) = true ∧
      nextIs (exec .poll (inPhase .wokenUp (quiet 3))) (fun t => t.ret == .poll .timedOut) = true := ⟨fun _ => ⟨rfl, rfl⟩, by decide +kernel, by decide +kernel⟩

theorem witness_ConfigurationIsReadOnly :
    nextIs (step (inPhase .done [])) (fun t => t.cfg == cfgB) = true ∧
      nextIs (exec .split (inPhase .idle [])) (fun t => t.cfg == cfgB) = true := by decide +kernel

/-- AWAKE rises, and falls, in an instruction and in a phase transition. -/
theorem witness_AwakeChangesOnlyAsStated :
    ((inPhase .idle (hand [0])).awake = false ∧
        nextIs (exec .wakeStep (inPhase .idle (hand [0]))) (fun t => t.awake) = true) ∧
      ({ inPhase .idle [bad] with awake := true } : State).awake = true ∧
      nextIs (exec .wakeStep { inPhase .idle [bad] with awake := true }) (fun t => !t.awake) = true ∧
      ({ inPhase .awaitingAck [] with awake := true, pollcnt := 3 } : State).awake = true ∧
      nextIs (step { inPhase .awaitingAck [] with awake := true, pollcnt := 3 }) (fun t => !t.awake) = true := by decide +kernel

end Sys2Proof.Tests
end

section
/-! PROOFS. Construction of a block instance (R8, R32, U11). An instance carries the legality of its own values, so it is
enough to say that construction answers the instance with the given values, whenever there is one. -/

namespace Sys2Proof

section
variable {i m : Word16} {r : BitVec 9} {f : Byte} {w : List Byte}

theorem Config.construct_eq_some_iff {c : Config} :
    Config.construct i m r f w = some c ↔
      c.intervalMs = i ∧ c.maxAttempts = m ∧ c.rxCount = r ∧ c.txFill = f ∧ c.wakeSeq = w := by
  constructor
  · intro h
    unfold Config.construct at h
    split at h
    case isTrue => cases h; exact ⟨rfl, rfl, rfl, rfl, rfl⟩
    case isFalse => cases h
  · rintro ⟨rfl, rfl, rfl, rfl, rfl⟩
    exact dif_pos ⟨⟨c.interval_pos, c.attempts_pos⟩, c.rxCount_legal, c.wakeSeq_legal⟩

theorem Config.construct_isSome_iff :
    (Config.construct i m r f w).isSome = true ↔
      1 ≤ i.toNat ∧ 1 ≤ m.toNat ∧ 8 ≤ r.toNat ∧ r.toNat ≤ 262 ∧ 1 ≤ w.length ∧ w.length ≤ 255 := by
  rw [Option.isSome_iff_exists]
  constructor
  · rintro ⟨c, hc⟩
    obtain ⟨rfl, rfl, rfl, rfl, rfl⟩ := Config.construct_eq_some_iff.mp hc
    exact ⟨c.interval_pos, c.attempts_pos, c.rxCount_legal.1, c.rxCount_legal.2, c.wakeSeq_legal⟩
  · rintro ⟨hi, hm, hr, hr', hw⟩
    exact ⟨⟨i, m, r, f, w, hi, hm, ⟨hr, hr'⟩, hw⟩, Config.construct_eq_some_iff.mpr ⟨rfl, rfl, rfl, rfl, rfl⟩⟩

end

/-- Settles O2: the legality of the values is read off the proof fields of the constructed instance, and conversely fills
them. -/
theorem constructionRefusesIllegalConfig : Obligations.ConstructionRefusesIllegalConfig :=
  fun _ _ _ _ _ => ⟨Config.construct_isSome_iff, fun _ => Config.construct_eq_some_iff.mp⟩

end Sys2Proof
end

section
/-! PROOFS. What a step can do, said once: the host's move in Idle, one transition of PHASE in every other phase. -/

namespace Sys2Proof.Machine

/-! ### What the link operations of an attempt can do -/

/-- The registers that reading and waiting write: ACKBUF, RXBUF, POLLCNT raised by k, the link. -/
def State.attempted (a b : List Byte) (k : Nat) (l : Link) (s : State) : State :=
  { s with ackbuf := a, rxbuf := b, pollcnt := s.pollcnt + BitVec.ofNat 16 k, link := l }

/-- What k counted attempts can leave of a state, the last of them perhaps cut short: what was read has its full length,
and the link has moved by events. -/
inductive Attempted (s : State) : Nat → State → Prop
  | intro (a b : List Byte) (k : Nat) (l : Link) (es : List Event) (ha : a = s.ackbuf ∨ a.length = 6)
      (hb : b = s.rxbuf ∨ b.length = s.cfg.rxCount.toNat) (e : s.link.Ext l es) :
      Attempted s k (s.attempted a b k l)

theorem Attempted.acked {s : State} {a : List Byte} {l : Link} {es : List Event} (k : Nat)
    (ha : a = s.ackbuf ∨ a.length = 6) (e : s.link.Ext l es) : Attempted s k (s.acked a k l) :=
  .intro a s.rxbuf k l es ha (.inl rfl) e

theorem Attempted.responded {s : State} {b : List Byte} {l : Link} {es : List Event} (k : Nat)
    (hb : b = s.rxbuf ∨ b.length = s.cfg.rxCount.toNat) (e : s.link.Ext l es) : Attempted s k (s.responded b k l) :=
  .intro s.ackbuf b k l es (.inl rfl) hb e

theorem Attempted.counted {s : State} {l : Link} {es : List Event} (k : Nat) (e : s.link.Ext l es) :
    Attempted s k (s.counted k l) :=
  .acked k (.inl rfl) e

theorem Attempted.setLink {s : State} {l : Link} {es : List Event} (e : s.link.Ext l es) :
    Attempted s 0 (s.setLink l) := by
  rw [← counted_zero]
  exact .counted 0 e

theorem Attempted.refl (s : State) : Attempted s 0 s := .setLink (.refl s.link)

theorem Attempted.storeAck {s : State} {a : List Byte} {l : Link} {es : List Event}
    (ha : a = s.ackbuf ∨ a.length = 6) (e : s.link.Ext l es) : Attempted s 0 ((storeAck a s).setLink l) := by
  have h : (Machine.storeAck a s).setLink l = s.acked a 0 l := by
    simp [Machine.storeAck, State.setLink, State.acked]
  rw [h]
  exact .acked 0 ha e

theorem Attempted.storeResp {s : State} {b : List Byte} {l : Link} {es : List Event}
    (hb : b = s.rxbuf ∨ b.length = s.cfg.rxCount.toNat) (e : s.link.Ext l es) :
    Attempted s 0 ((storeResp b s).setLink l) := by
  have h : (Machine.storeResp b s).setLink l = s.responded b 0 l := by
    simp [Machine.storeResp, State.setLink, State.responded]
  rw [h]
  exact .responded 0 hb e

theorem Attempted.trans {s u v : State} {j k : Nat} (h : Attempted s j u) (g : Attempted u k v) :
    Attempted s (j + k) v := by
  obtain ⟨a, b, _, l, es, ha, hb, e⟩ := h
  obtain ⟨a', b', _, m, fs, ha', hb', e'⟩ := g
  have hv : (s.attempted a b j l).attempted a' b' k m = s.attempted a' b' (j + k) m := by
    simp [State.attempted, BitVec.ofNat_add, BitVec.add_assoc]
  rw [hv]
  refine .intro a' b' _ m _ ?_ ?_ (e.trans e')
  · rcases ha' with rfl | ha'
    · exact ha
    · exact .inr ha'
  · rcases hb' with rfl | hb'
    · exact hb
    · exact .inr hb'

theorem Attempted.phase {s u : State} {k : Nat} (h : Attempted s k u) : u.phase = s.phase := by
  cases h; rfl

/-! ### The transitions out of a busy state -/

/-- The attempts left before the bound of a polling phase (R193). -/
abbrev State.attemptsLeft (s : State) : Nat := s.polllim.toNat - s.pollcnt.toNat

theorem attemptsLeft_pos {s : State} (h : ¬ s.polllim ≤ s.pollcnt) : 0 < s.attemptsLeft :=
  Nat.sub_pos_of_lt (BitVec.lt_def.1 (BitVec.not_le.1 h))

/-- What a step can do in a busy state (R216 to R226). -/
inductive Transition (s : State) : State → Prop
  | sent {u : State} (hu : Attempted s 0 u) (hp : s.phase = .wokenUp) : Transition s (u.setPhase .frameSent)
  | enterAckWait (hp : s.phase = .frameSent) : Transition s (enterAckWait s)
  | waited {u : State} {k : Nat} (hu : Attempted s k u) (hk : k ≤ s.attemptsLeft) : Transition s u
  | enterResponseWait {u : State} (hu : Attempted s 0 u) (hp : s.phase = .awaitingAck) :
      Transition s (enterResponseWait u)
  | accepted {u : State} {d : List Byte} (hu : Attempted s 0 u) (hd : d.length ≤ 262) :
      Transition s ((u.setResult d).setPhase .done)
  | failed {u : State} {e : Err} (hu : Attempted s 0 u) (he : isBlockError e = true) : Transition s (failEntry e u)
  | returned : Transition s (returnToIdle s)

theorem decodeFrame_length {raw p : List Byte} {tfi : Byte} (h : decodeFrame raw = .ok (tfi, p)) :
    p.length + 8 ≤ raw.length := by
  obtain ⟨len, l, c, b, rest, rfl, -⟩ := decodeFrame_eq_ok h
  simp [frameShape]

theorem isBlockError_of_decodeFrame {raw : List Byte} {e : Err} (h : decodeFrame raw = .err e) :
    isBlockError e = true := by
  rcases decodeFrame_err_kind h with rfl | rfl | rfl <;> rfl

theorem isBlockError_of_correlate {op tfi : Byte} {p : List Byte} {e : Err} (h : correlate op tfi p = .err e) :
    isBlockError e = true := by
  rcases correlate_err_kind h with rfl | rfl <;> rfl

/-- CORRELATE drops direction byte and tag, so what it accepts is no longer than the payload. -/
theorem correlate_length {op tfi : Byte} {p d : List Byte} (h : correlate op tfi p = .ok d) :
    d.length ≤ p.length := by
  obtain ⟨-, rfl⟩ := correlate_eq_ok h
  simp

theorem transition_of_sendCommand {s : State} (hp : s.phase = .wokenUp) : Transition s (settle (sendCommand s)) := by
  rcases sendFrame_cases s with ⟨rx, l, h, -, e, -⟩ | ⟨l, es, h, e, -⟩
  · rw [sendCommand, h, bind_ok, settle_ok]
    exact .sent (.setLink e) hp
  · rw [sendCommand, h, bind_err, settle_err]
    exact .failed (.setLink e) rfl

/-- The end of an attempt that brought nothing, where one is left (R193, R221, R222). -/
theorem transition_of_failedAttempt {s u : State} (hu : Attempted s 0 u) (hk : 0 < s.attemptsLeft) :
    Transition s (settle (failedAttempt u)) := by
  rcases failedAttempt_cases u with ⟨l, h, e, -⟩ | ⟨l, h, e, -⟩
  · rw [h, settle_ok]
    exact .waited (hu.trans (.counted 1 e)) hk
  · rw [h, settle_err]
    exact .failed (hu.trans (.setLink e)) rfl

/-- CORRELATE on the frame read (R225). -/
theorem transition_of_acceptResponse {s u : State} {tfi : Byte} {p : List Byte} (hu : Attempted s 0 u)
    (hl : p.length ≤ 262) : Transition s (settle (acceptResponse tfi p u)) := by
  rw [acceptResponse]
  split
  next d h => exact .accepted hu ((correlate_length h).trans hl)
  next e h => exact .failed hu (isBlockError_of_correlate h)

theorem ackAttempt_transition {s : State} (hp : s.phase = .awaitingAck) :
    ∃ t, ackAttempt s = .next t ∧ Transition s t := by
  unfold ackAttempt
  split
  case isTrue => exact ⟨_, rfl, .failed (.refl s) rfl⟩
  case isFalse hlt =>
    have hk := attemptsLeft_pos hlt
    rcases ready_cases s with ⟨b, l, h, e, -⟩ | ⟨l, h, e, -⟩
    · rw [h]
      cases b with
      | false => exact ⟨_, rfl, transition_of_failedAttempt (.setLink e) hk⟩
      | true =>
        rcases readAck_cases (s.setLink l) with ⟨rx, m, h', hr, e', -⟩ | ⟨a, m, es, h', ha, e', -⟩
        · have hu : Attempted s 0 ((storeAck rx (s.setLink l)).setLink m) :=
            (Attempted.setLink e).trans (.storeAck (.inr hr) e')
          have hq : ((storeAck rx (s.setLink l)).setLink m).phase = .awaitingAck := hu.phase.trans hp
          simp only [h']
          split
          · exact ⟨_, by rw [exec, execAck, receiveConstant, hq], .enterResponseWait hu hp⟩
          · exact ⟨_, by rw [exec, execNak, receiveConstant, hq], .failed hu rfl⟩
          · exact ⟨_, rfl, transition_of_failedAttempt hu hk⟩
        · simp only [h']
          exact ⟨_, rfl, .failed ((Attempted.setLink e).trans (.storeAck ha e')) rfl⟩
    · rw [h]
      exact ⟨_, rfl, .failed (.setLink e) rfl⟩

/-- A frame executed in the response wait is handed to CORRELATE, whichever row it is (R225). -/
theorem exec_receivedFrame {s : State} (hp : s.phase = .awaitingResponse) (tfi : Byte) (p : List Byte) :
    exec (receivedFrame tfi p) s = .next (settle (acceptResponse tfi p s)) := by
  unfold receivedFrame
  split
  · split
    next h => rw [exec, execInfoRsp, receiveFrame, hp, h]
    next => rw [exec, execInfo, receiveFrame, hp]
  · rw [exec, execInfo, receiveFrame, hp]

theorem responseAttempt_transition {s : State} (hp : s.phase = .awaitingResponse) :
    ∃ t, responseAttempt s = .next t ∧ Transition s t := by
  unfold responseAttempt
  split
  case isTrue => exact ⟨_, rfl, .failed (.refl s) rfl⟩
  case isFalse hlt =>
    have hk := attemptsLeft_pos hlt
    rcases ready_cases s with ⟨b, l, h, e, -⟩ | ⟨l, h, e, -⟩
    · rw [h]
      cases b with
      | false => exact ⟨_, rfl, transition_of_failedAttempt (.setLink e) hk⟩
      | true =>
        rcases readResp_cases (s.setLink l) with ⟨rx, m, h', hr, e', -⟩ | ⟨b, m, es, h', hb, e', -⟩
        · have hu : Attempted s 0 ((storeResp rx (s.setLink l)).setLink m) :=
            (Attempted.setLink e).trans (.storeResp (.inr hr) e')
          have hq : ((storeResp rx (s.setLink l)).setLink m).phase = .awaitingResponse := hu.phase.trans hp
          simp only [h']
          split
          next tfi p hd =>
            have hl : p.length ≤ 262 := by
              have := decodeFrame_length hd
              have := s.cfg.rxCount_legal.2
              simp at *
              omega
            exact ⟨_, exec_receivedFrame hq tfi p, transition_of_acceptResponse hu hl⟩
          next e hd => exact ⟨_, rfl, .failed hu (isBlockError_of_decodeFrame hd)⟩
        · simp only [h']
          exact ⟨_, rfl, .failed ((Attempted.setLink e).trans (.storeResp hb e')) rfl⟩
    · rw [h]
      exact ⟨_, rfl, .failed (.setLink e) rfl⟩

/-- In a busy state there is a step, and it is one of the transitions (R28, R216 to R226). -/
theorem step_of_busy {s : State} (h : s.phase ≠ .idle) : ∃ t, step s = .next t ∧ Transition s t := by
  rw [step, advance]
  cases hp : s.phase with
  | idle => exact absurd hp h
  | wokenUp => exact ⟨_, rfl, transition_of_sendCommand hp⟩
  | frameSent => exact ⟨_, rfl, .enterAckWait hp⟩
  | awaitingAck => exact ackAttempt_transition hp
  | awaitingResponse => exact responseAttempt_transition hp
  | done => exact ⟨_, rfl, .returned⟩
  | failed => exact ⟨_, rfl, .returned⟩

/-- A busy state steps by a transition alone. -/
theorem transition_of_step {s t : State} (hp : s.phase ≠ .idle) (h : step s = .next t) : Transition s t := by
  obtain ⟨u, hu, htr⟩ := step_of_busy hp
  rw [h] at hu
  injection hu with hu
  exact hu ▸ htr

/-! ### The host's move in Idle -/

theorem step_of_idle {s : State} (hp : s.phase = .idle) : step s = hostMove s := by rw [step, advance, hp]

/-- A host write is a step (R20, R105). -/
theorem step_of_write {s : State} {w : HostWrite} {q : List HostMove} (hp : s.phase = .idle)
    (hq : s.hostq = .write w :: q) : step s = .next (hostWrite w { s with hostq := q }) := by
  rw [step_of_idle hp, hostMove, hq]

/-- The operations a command byte selects (R104). -/
def IsHostOperation (i : Instr) : Prop := i = .encode ∨ i = .decode ∨ i = .request ∨ i = .wake

theorem isHostOperation_of_decodeSelector {b : Byte} {i : Instr} (h : decodeSelector b = some i) :
    IsHostOperation i := by
  unfold decodeSelector at h
  unfold IsHostOperation
  repeat' split at h
  all_goals simp_all

/-- A command byte that answers a next state has run the operation it selects (R104). -/
theorem operationPort_next {b : Byte} {s t : State} (h : operationPort b s = .next t) :
    ∃ i, IsHostOperation i ∧ exec i s = .next t := by
  rw [operationPort, decode] at h
  cases hb : decodeSelector b with
  | none => rw [hb] at h; cases h
  | some i => exact ⟨i, isHostOperation_of_decodeSelector hb, by rwa [hb] at h⟩

/-- What a step can do in Idle (R20, R103, R320): wait, take an operand write, or run the operation of the next move. -/
theorem step_idle_next {s t : State} (hp : s.phase = .idle) (h : step s = .next t) :
    t = s ∨
    (∃ w q, s.hostq = .write w :: q ∧ t = hostWrite w { s with hostq := q }) ∨
    (∃ m q i, s.hostq = m :: q ∧ (IsHostOperation i ∨ m = .call i ∧ isPseudo i = true) ∧
      exec i { s with hostq := q } = .next t) := by
  rw [step_of_idle hp, hostMove] at h
  split at h
  · injection h with h
    exact .inl h.symm
  · next m q hq =>
    refine .inr ?_
    split at h
    · injection h with h
      exact .inl ⟨_, q, hq, h.symm⟩
    · obtain ⟨i, hi, hx⟩ := operationPort_next h
      exact .inr ⟨_, q, i, hq, .inl hi, hx⟩
    · next i =>
      cases hi : isPseudo i with
      | false => rw [hi] at h; cases h
      | true =>
        rw [hi] at h
        exact .inr ⟨_, q, i, hq, .inr ⟨rfl, hi⟩, h⟩

/-! ### The operations that use the engine -/

theorem busy_iff {s : State} : s.busy = true ↔ s.phase ≠ .idle := by simp [State.busy]

/-- A Command Layer operation writes the operands of a request and runs it, with arguments that fit where the call is
well-formed (R260). -/
theorem exec_pseudo {i : Instr} (hi : isPseudo i = true) (s : State) :
    ∃ op args tm parse onErr, exec i s = callEngine op args tm parse onErr s ∧
      (WellFormed i = true → args.length ≤ 255) := by
  cases i with
  | getFirmwareVersion tm => exact ⟨_, _, tm, _, _, rfl, fun _ => by simp⟩
  | samConfiguration mode b irq tm => exact ⟨_, _, tm, _, _, rfl, fun _ => by simp⟩
  | readPassiveTarget profile tm => exact ⟨_, _, tm, _, _, rfl, fun _ => by simp⟩
  | inDataExchange args tm => exact ⟨_, args, tm, _, _, rfl, fun h => by simpa [WellFormed] using h⟩
  | _ => cases hi

/-- What a call of the engine leaves: the state of its request, with the value returned (R260, R328). -/
theorem callEngine_next {op : Byte} {args : List Byte} {tm : Timeout} {parse : List Byte → Ret} {onErr : Err → Ret}
    {s t : State} (h : callEngine op args tm parse onErr s = .next t) :
    s.phase = .idle ∧ ∃ r, t = (runRequest (writeRequest op args tm s)).setRet r := by
  rw [callEngine] at h
  split at h
  · cases h
  · next hb =>
    refine ⟨by simpa [busy_iff] using hb, ?_⟩
    split at h <;> injection h with h <;> exact ⟨_, h.symm⟩

/-- The operations that use the engine are refused while it is busy (R28, R328). -/
theorem exec_refused_of_busy {i : Instr} {s : State} (hp : s.phase ≠ .idle)
    (hi : i = .request ∨ i = .wake ∨ isPseudo i = true) : exec i s = .refused .busy := by
  have hb : s.busy = true := busy_iff.2 hp
  rcases hi with rfl | rfl | hi
  · rw [exec, execRequest, if_pos hb]
  · rw [exec, execWake, if_pos hb]
  · obtain ⟨op, args, tm, parse, onErr, h, -⟩ := exec_pseudo hi s
    rw [h, callEngine, if_pos hb]

end Sys2Proof.Machine
end

section
/-! PROOFS. What instructions and steps leave unchanged (R21, R28, R32, R38), and how AWAKE changes (R27, R293). -/

namespace Sys2Proof.Machine

/-! ### The registers that no transition and no request writes -/

theorem Attempted.frames {s u : State} {k : Nat} (h : Attempted s k u) : RequestFrames s u := by
  cases h; constructor <;> rfl

/-- A transition writes none of the host's registers (R28, R38). -/
theorem Transition.frames {s t : State} (h : Transition s t) : RequestFrames s t := by
  cases h with
  | sent hu | enterResponseWait hu | accepted hu | failed hu => exact hu.frames.trans (by constructor <;> rfl)
  | waited hu => exact hu.frames
  | enterAckWait | returned => constructor <;> rfl

/-- Apart from the registers that `RequestFrames` and PHASE name, a request writes those listed here. -/
theorem RequestFrames.eq {s t : State} (h : RequestFrames s t) (hp : t.phase = s.phase) :
    t = { s with
      tack := t.tack, tresp := t.tresp, txbuf := t.txbuf, ackbuf := t.ackbuf, rxbuf := t.rxbuf
      pollcnt := t.pollcnt, polllim := t.polllim, awake := t.awake, status := t.status, rdata := t.rdata
      link := t.link } := by
  obtain ⟨⟩ := s
  obtain ⟨⟩ := t
  obtain ⟨⟩ := h
  simp_all

/-- Settles O33: a request starts and ends in Idle, and every other register it keeps is in its frame. -/
theorem requestFrame : Obligations.RequestFrame := by
  intro s t h
  obtain ⟨hp, rfl⟩ := exec_request_next h
  obtain ⟨hidle, hf, -⟩ := runRequest_cases s
  exact hf.eq (hidle.trans hp.symm)

/-- Settles O51: the step of a busy state is a transition, which leaves the host's registers alone. -/
theorem busyGivesHostNoMove : Obligations.BusyGivesHostNoMove := by
  intro s hp
  obtain ⟨t, ht, htr⟩ := step_of_busy hp
  have hf := htr.frames
  exact ⟨⟨t, ht, hf.hostq, hf.written, hf.opcode, hf.args, hf.tmode, hf.t1, hf.t2, hf.cinTfi, hf.cin, hf.din⟩,
    fun _ => exec_refused_of_busy hp⟩

/-! ### What every instruction does to AWAKE and to the registers outside the block's reach -/

/-- How AWAKE may change (R27, R293): it rises by a completed exchange of the wake-up sequence, and falls where a failure
other than NakReceived and PayloadTooLarge is recorded. -/
def AwakeLaw (s t : State) : Prop :=
  (s.awake = false → t.awake = true →
    ∃ (rx : List Byte) (es : List Event), t.link.trace = s.link.trace ++ bracketEvents s.cfg.wakeSeq rx ++ es) ∧
  (s.awake = true → t.awake = false → ∃ e, t.status = .error e ∧ e ≠ .nakReceived ∧ e ≠ .payloadTooLarge)

/-- What holds between the states before and after every instruction: the configuration, the Command Layer's constants
and the host's queue are kept (R21, R32), and AWAKE changes by its law. -/
structure Effect (s t : State) : Prop where
  cfg : t.cfg = s.cfg
  layer : t.layer = s.layer
  hostq : t.hostq = s.hostq
  awake : AwakeLaw s t

/-- The registers that every operation but a wake-up and a failure keeps. -/
def State.standing (s : State) : Config × CommandParams × List HostMove × Bool := (s.cfg, s.layer, s.hostq, s.awake)

theorem standing_eq_iff {s t : State} :
    t.standing = s.standing ↔ t.cfg = s.cfg ∧ t.layer = s.layer ∧ t.hostq = s.hostq ∧ t.awake = s.awake := by
  simp [State.standing]

/-- The state an engine computation reaches, before any failure entry. -/
def Run.state {α : Type} : Run α → State
  | .ok _ s => s
  | .err _ s => s

@[simp] theorem state_ok {α : Type} (a : α) (s : State) : (Run.ok a s).state = s := rfl

@[simp] theorem state_err {α : Type} (e : Err) (s : State) : (Run.err e s : Run α).state = s := rfl

theorem AwakeLaw.of_eq {s t : State} (h : t.awake = s.awake) : AwakeLaw s t := by
  refine ⟨fun h0 h1 => ?_, fun h1 h0 => ?_⟩
  · rw [h, h0] at h1; cases h1
  · rw [h, h1] at h0; cases h0

theorem ne_of_keepsAwake_eq_false {e : Err} (h : keepsAwake e = false) : e ≠ .nakReceived ∧ e ≠ .payloadTooLarge := by
  constructor <;> rintro rfl <;> cases h

/-- The failure entry clears AWAKE only for the errors of R293. -/
theorem AwakeLaw.of_failEntry {s u : State} (e : Err) (h : u.awake = s.awake) : AwakeLaw s (failEntry e u) := by
  refine ⟨fun h0 h1 => ?_, fun h1 h0 => ⟨e, rfl, ne_of_keepsAwake_eq_false ?_⟩⟩
  · simp [h, h0] at h1
  · simpa [h, h1] using h0

theorem Effect.of_standing {s t : State} (h : t.standing = s.standing) : Effect s t := by
  obtain ⟨hc, hl, hq, ha⟩ := standing_eq_iff.1 h
  exact ⟨hc, hl, hq, .of_eq ha⟩

theorem Effect.of_failEntry {s u : State} (e : Err) (h : u.standing = s.standing) : Effect s (failEntry e u) := by
  obtain ⟨hc, hl, hq, ha⟩ := standing_eq_iff.1 h
  exact ⟨hc, hl, hq, .of_failEntry e ha⟩

theorem Effect.of_settle {α : Type} {s : State} {r : Run α} (h : r.state.standing = s.standing) :
    Effect s (settle r) := by
  cases r with
  | ok a t => exact .of_standing h
  | err e t => exact .of_failEntry e h

/-! ### The engine's operations -/

theorem Attempted.standing {s u : State} {k : Nat} (h : Attempted s k u) : u.standing = s.standing := by
  cases h; rfl

theorem Attempted.awake {s u : State} {k : Nat} (h : Attempted s k u) : u.awake = s.awake := by
  cases h; rfl

/-- POLL: between no attempt and all that are left are counted (R193). -/
theorem poll_attempted (s : State) : ∃ k, Attempted s k (poll s).state := by
  obtain ⟨k, l, -, ⟨h, -, e⟩ | ⟨h, -, e⟩ | ⟨h, -, e | e⟩⟩ := pollLoop_cases s.attemptsLeft s <;>
    exact ⟨k, by rw [poll, h]; exact .counted k e⟩

theorem failedAttempt_attempted (s : State) : ∃ k, Attempted s k (failedAttempt s).state := by
  rcases failedAttempt_cases s with ⟨l, h, e, -⟩ | ⟨l, h, e, -⟩
  · exact ⟨1, by rw [h]; exact .counted 1 e⟩
  · exact ⟨0, by rw [h]; exact .setLink e⟩

theorem sendFrame_attempted (s : State) : Attempted s 0 (sendFrame s).state := by
  rcases sendFrame_cases s with ⟨rx, l, h, -, e, -⟩ | ⟨l, es, h, e, -⟩ <;> rw [h] <;> exact .setLink e

theorem readAck_attempted (s : State) : Attempted s 0 (readAck s).state := by
  rcases readAck_cases s with ⟨rx, l, h, hr, e, -⟩ | ⟨a, l, es, h, ha, e, -⟩ <;> rw [h]
  · exact .storeAck (.inr hr) e
  · exact .storeAck ha e

theorem readResp_attempted (s : State) : Attempted s 0 (readResp s).state := by
  rcases readResp_cases s with ⟨rx, l, h, hr, e, -⟩ | ⟨b, l, es, h, hb, e, -⟩ <;> rw [h]
  · exact .storeResp (.inr hr) e
  · exact .storeResp hb e

theorem sendCommand_standing (s : State) : (sendCommand s).state.standing = s.standing := by
  have h := (sendFrame_attempted s).standing
  rw [sendCommand]
  cases hr : sendFrame s <;> rw [hr] at h <;> exact h

theorem acceptResponse_standing (tfi : Byte) (p : List Byte) (s : State) :
    (acceptResponse tfi p s).state.standing = s.standing := by
  rw [acceptResponse]
  split <;> rfl

theorem receiveFrame_effect (tfi : Byte) (p : List Byte) (s : State) : Effect s (receiveFrame tfi p s) := by
  unfold receiveFrame
  split
  case h_1 =>
    obtain ⟨k, h⟩ := failedAttempt_attempted s
    exact .of_settle h.standing
  case h_2 => exact .of_settle (acceptResponse_standing tfi p s)
  all_goals exact .of_standing rfl

theorem receiveConstant_effect {f : State → State} {s : State} (h : Effect s (f s)) : Effect s (receiveConstant f s) := by
  unfold receiveConstant
  split
  case h_1 => exact h
  case h_2 => exact .of_failEntry _ rfl
  all_goals exact .of_standing rfl

theorem infoCmd_effect {op : Byte} {args : List Byte} {s t : State} (h : execInfoCmd op args s = .next t) :
    Effect s t := by
  unfold execInfoCmd at h
  split at h <;> injection h with h <;> subst h
  case h_1 =>
    rw [loadFrame]
    split
    · exact .of_settle (sendCommand_standing _)
    · exact .of_failEntry _ rfl
  all_goals exact .of_standing rfl

/-- AWAKE set after a completed exchange of WAKE_SEQ (R196). -/
theorem Effect.of_woken {s t : State} {l : Link} {rx : List Byte} (e : s.link.Ext l (bracketEvents s.cfg.wakeSeq rx))
    (h : t.standing = (s.setAwake true).standing) (hl : t.link = l) : Effect s t := by
  obtain ⟨hc, hy, hq, ha⟩ := standing_eq_iff.1 h
  refine ⟨hc, hy, hq, fun _ _ => ⟨rx, [], ?_⟩, fun _ h0 => ?_⟩
  · rw [hl, e.1, List.append_nil]
  · rw [ha] at h0; cases h0

theorem wakeStep_effect (s : State) : Effect s (settle (wakeStep s)) := by
  rcases wakeStep_cases s with ⟨rx, l, h, -, e, -⟩ | ⟨l, es, h, -, -⟩ <;> rw [h]
  · exact .of_woken e rfl rfl
  · exact .of_failEntry _ rfl

theorem wakeup_effect {s t : State} (h : execWakeup s = .next t) : Effect s t := by
  unfold execWakeup at h
  split at h <;> injection h with h <;> subst h
  case h_1 => exact wakeStep_effect s
  all_goals exact .of_standing rfl

/-- WAKE sets AWAKE, or fails with BusFault and clears it (R198). -/
theorem wake_effect {s t : State} (h : execWake s = .next t) : Effect s t := by
  rw [execWake] at h
  split at h
  · cases h
  · rcases wakeStep_cases s with ⟨rx, l, hw, -, e, -⟩ | ⟨l, es, hw, -, -⟩ <;> rw [hw] at h <;> injection h with h <;>
      subst h
    · exact .of_woken e rfl rfl
    · exact ⟨rfl, rfl, rfl, nofun, fun _ _ => ⟨.busFault, rfl, by decide, by decide⟩⟩

/-! ### A request -/

/-- A request that raised AWAKE has woken the chip first (R217). -/
theorem RequestOutcome.wakes {s t : State} {es : List Event} (h : RequestOutcome s t es) (h0 : s.awake = false)
    (h1 : t.awake = true) : ∃ rx fs, es = bracketEvents s.cfg.wakeSeq rx ++ fs := by
  have hw : ∀ rx, wakeEvents s rx = bracketEvents s.cfg.wakeSeq rx := fun rx => by simp [wakeEvents, h0]
  cases h with
  | tooLarge _ _ _ ha => rw [ha, h0] at h1; cases h1
  | wakeFault _ _ _ ht => rw [ht.2.2] at h1; cases h1
  | sendFault wrx | ackTimeout wrx | ackFault wrx | nak wrx | respTimeout wrx | respFault wrx | read wrx =>
    exact ⟨wrx, _, by rw [hw]⟩

/-- A request that cleared AWAKE has failed, after the chip was reached (R293). -/
theorem RequestOutcome.fails {s t : State} {es : List Event} (h : RequestOutcome s t es) (h1 : s.awake = true)
    (h0 : t.awake = false) : ∃ e, FailedWith e t := by
  cases h with
  | tooLarge _ _ _ ha => rw [ha, h1] at h0; cases h0
  | wakeFault _ _ _ ht | sendFault _ _ _ ht | ackTimeout _ _ _ _ _ ht | ackFault _ _ _ _ _ _ ht
  | nak _ _ _ _ _ ht | respTimeout _ _ _ _ _ _ ht | respFault _ _ _ _ _ _ _ ht => exact ⟨_, ht⟩
  | read _ _ _ _ _ _ _ _ _ _ _ _ _ ht =>
    rcases ht with ⟨-, ha, -⟩ | ⟨e, hf, -⟩
    · rw [ha] at h0; cases h0
    · exact ⟨e, hf⟩

theorem runRequest_effect (s : State) : Effect s (runRequest s) := by
  obtain ⟨-, hf, es, e, ho⟩ := runRequest_cases s
  refine ⟨hf.cfg, hf.layer, hf.hostq, fun h0 h1 => ?_, fun h1 h0 => ?_⟩
  · obtain ⟨rx, fs, rfl⟩ := ho.wakes h0 h1
    exact ⟨rx, fs, by rw [e.1, List.append_assoc]⟩
  · obtain ⟨e, hs, -, ha⟩ := ho.fails h1 h0
    exact ⟨e, hs, ne_of_keepsAwake_eq_false (ha.symm.trans h0)⟩

/-- The writes of a request's operands and the returned value do not matter to what an instruction keeps (R260). -/
theorem callEngine_effect {op : Byte} {args : List Byte} {tm : Timeout} {parse : List Byte → Ret} {onErr : Err → Ret}
    {s t : State} (h : callEngine op args tm parse onErr s = .next t) : Effect s t := by
  obtain ⟨-, r, rfl⟩ := callEngine_next h
  obtain ⟨hc, hl, hq, ha⟩ := runRequest_effect (writeRequest op args tm s)
  cases tm <;> exact ⟨hc, hl, hq, ha⟩

/-! ### All instructions and all steps -/

theorem encode_effect {s t : State} (h : execEncode s = .next t) : Effect s t := by
  rw [execEncode] at h
  split at h <;> injection h with h <;> subst h <;> exact .of_standing rfl

theorem decode_effect {s t : State} (h : execDecode s = .next t) : Effect s t := by
  rw [execDecode] at h
  split at h <;> injection h with h <;> subst h <;> exact .of_standing rfl

theorem correlate_effect {tfi : Byte} {p : List Byte} {s t : State} (h : execCorrelate tfi p s = .next t) :
    Effect s t := by
  rw [execCorrelate] at h
  split at h <;> injection h with h <;> subst h <;> exact .of_standing rfl

theorem poll_effect (s : State) : Effect s (settle ((poll s).bind fun r u => .ok r (u.setRet (.poll r)))) := by
  obtain ⟨k, h⟩ := poll_attempted s
  have hs := h.standing
  apply Effect.of_settle
  cases hp : poll s <;> rw [hp] at hs <;> exact hs

theorem exec_effect {i : Instr} {s t : State} (h : exec i s = .next t) : Effect s t := by
  cases i with
  | encode => exact encode_effect h
  | decode => exact decode_effect h
  | request =>
    obtain ⟨-, rfl⟩ := exec_request_next h
    exact runRequest_effect s
  | wake => exact wake_effect h
  | lcs | dcs | ackmatch | expect | limit | split =>
    injection h with h
    exact .of_standing (by rw [← h]; rfl)
  | correlate => exact correlate_effect h
  | poll =>
    injection h with h
    exact h ▸ poll_effect s
  | wakeStep =>
    injection h with h
    exact h ▸ wakeStep_effect s
  | sendframe =>
    injection h with h
    exact h ▸ .of_settle (sendFrame_attempted s).standing
  | readack =>
    injection h with h
    exact h ▸ .of_settle (readAck_attempted s).standing
  | readresp =>
    injection h with h
    exact h ▸ .of_settle (readResp_attempted s).standing
  | ack =>
    injection h with h
    exact h ▸ receiveConstant_effect (.of_standing rfl)
  | nak =>
    injection h with h
    exact h ▸ receiveConstant_effect (.of_failEntry _ rfl)
  | info tfi p | infoRsp tag d =>
    injection h with h
    exact h ▸ receiveFrame_effect _ _ s
  | infoCmd => exact infoCmd_effect h
  | wakeup => exact wakeup_effect h
  | getFirmwareVersion | samConfiguration | readPassiveTarget | inDataExchange => exact callEngine_effect h

/-- A transition changes AWAKE in the failure entry alone (R27). -/
theorem Transition.awakeLaw {s t : State} (h : Transition s t) : AwakeLaw s t := by
  cases h with
  | sent hu | waited hu | enterResponseWait hu | accepted hu => exact .of_eq hu.awake
  | failed hu => exact .of_failEntry _ hu.awake
  | enterAckWait | returned => exact .of_eq rfl

/-- Every step keeps the configuration and the constants, and changes AWAKE by its law. -/
theorem step_effect {s t : State} (h : step s = .next t) : t.cfg = s.cfg ∧ t.layer = s.layer ∧ AwakeLaw s t := by
  by_cases hp : s.phase = .idle
  · rcases step_idle_next hp h with rfl | ⟨w, q, -, rfl⟩ | ⟨m, q, i, -, -, hx⟩
    · exact ⟨rfl, rfl, .of_eq rfl⟩
    · rw [hostWrite_frame]
      exact ⟨rfl, rfl, .of_eq rfl⟩
    · exact ⟨(exec_effect hx).cfg, (exec_effect hx).layer, (exec_effect hx).awake⟩
  · have htr := transition_of_step hp h
    exact ⟨htr.frames.cfg, htr.frames.layer, htr.awakeLaw⟩

/-- Settles O58: by the effect of every instruction and of every step. -/
theorem configurationIsReadOnly : Obligations.ConfigurationIsReadOnly := fun _ _ =>
  ⟨fun h => ⟨(step_effect h).1, (step_effect h).2.1⟩,
    fun _ h => ⟨(exec_effect h).cfg, (exec_effect h).layer, (exec_effect h).hostq⟩⟩

/-- Settles O59: by the effect of every instruction and of every step. -/
theorem awakeChangesOnlyAsStated : Obligations.AwakeChangesOnlyAsStated := by
  rintro s t (h | ⟨i, h⟩)
  · exact (step_effect h).2.2
  · exact (exec_effect h).awake

end Sys2Proof.Machine
end

section
/-! PROOFS. The invariant (R22, R25, R26, R34, R106): it holds after construction, and every step keeps it. -/

namespace Sys2Proof.Machine

/-! ### The part of the invariant that does not depend on PHASE and STATUS -/

/-- The clauses of `State.Inv` that hold within an engine computation as well. -/
structure Sound (s : State) : Prop where
  buffers : BuffersFit s
  moves : ∀ m ∈ s.hostq, moveFits m = true
  poll : PollBounded s
  clock : ClockAgrees s

theorem inv_iff {s : State} : s.Inv ↔ Sound s ∧ StatusLegal s ∧ RequestLoaded s :=
  ⟨fun ⟨hb, hm, hp, hs, hr, hc⟩ => ⟨⟨hb, hm, hp, hc⟩, hs, hr⟩,
    fun ⟨⟨hb, hm, hp, hc⟩, hs, hr⟩ => ⟨hb, hm, hp, hs, hr, hc⟩⟩

/-- A link that has moved by events still agrees with its trace. -/
theorem clock_of_ext {l m : Link} {es : List Event} (h : l.elapsedMs = sleptMs l.trace ∧ l.calls = l.trace.length)
    (e : l.Ext m es) : m.elapsedMs = sleptMs m.trace ∧ m.calls = m.trace.length := by
  obtain ⟨ht, hc, hm⟩ := e
  rw [ht, hc, hm, sleptMs_append, List.length_append, h.1, h.2]
  exact ⟨rfl, rfl⟩

/-- What has been read fits its buffer, and POLLCNT has not passed its bound. -/
theorem Sound.attempted {s u : State} {k : Nat} (h : Sound s) (hu : Attempted s k u) (hk : k ≤ s.attemptsLeft) :
    Sound u := by
  obtain ⟨a, b, _, l, es, ha, hb, e⟩ := hu
  obtain ⟨hargs, htx, hack, hrx, hcin, hdin, hdata⟩ := h.buffers
  obtain ⟨hcnt, hlim⟩ := h.poll
  refine ⟨⟨hargs, htx, ?_, ?_, hcin, hdin, hdata⟩, h.moves, ⟨?_, hlim⟩, clock_of_ext h.clock e⟩
  · rcases ha with rfl | ha
    · exact hack
    · exact ha
  · rcases hb with rfl | hb
    · exact hrx
    · exact hb.trans_le s.cfg.rxCount_legal.2
  · have hc : (s.acked a k l).pollcnt.toNat = s.pollcnt.toNat + k := left_counted a l hk hcnt
    show (s.acked a k l).pollcnt.toNat ≤ s.polllim.toNat
    rw [hc, Nat.add_comm]
    exact (Nat.le_sub_iff_add_le hcnt).1 hk

theorem Sound.setLink {s : State} {l : Link} {es : List Event} (h : Sound s) (e : s.link.Ext l es) :
    Sound (s.setLink l) :=
  h.attempted (.setLink e) (Nat.zero_le _)

theorem Sound.setPhase {s : State} (h : Sound s) (p : Phase) : Sound (s.setPhase p) :=
  ⟨h.buffers, h.moves, h.poll, h.clock⟩

theorem Sound.setAwake {s : State} (h : Sound s) (b : Bool) : Sound (s.setAwake b) :=
  ⟨h.buffers, h.moves, h.poll, h.clock⟩

theorem Sound.setRet {s : State} (h : Sound s) (r : Ret) : Sound (s.setRet r) :=
  ⟨h.buffers, h.moves, h.poll, h.clock⟩

theorem Sound.storeBudgets {s : State} (h : Sound s) : Sound (storeBudgets s) :=
  ⟨h.buffers, h.moves, h.poll, h.clock⟩

theorem Sound.setResult {s : State} {d : List Byte} (h : Sound s) (hd : d.length ≤ 262) : Sound (s.setResult d) := by
  obtain ⟨hargs, htx, hack, hrx, hcin, hdin, -⟩ := h.buffers
  exact ⟨⟨hargs, htx, hack, hrx, hcin, hdin, hd⟩, h.moves, h.poll, h.clock⟩

theorem Sound.failEntry {s : State} (h : Sound s) (e : Err) : Sound (failEntry e s) := by
  obtain ⟨hb, hm, hp, hc⟩ := h.setResult (d := []) (Nat.zero_le _)
  exact ⟨hb, hm, hp, hc⟩

theorem Sound.failPure {s : State} (h : Sound s) (e : Err) : Sound (failPure e s) := by
  obtain ⟨hb, hm, hp, hc⟩ := h.setResult (d := []) (Nat.zero_le _)
  exact ⟨hb, hm, hp, hc⟩

/-- The frame of a command of at most 253 argument bytes fits TXBUF (R96). -/
theorem Sound.encoded {s : State} (h : Sound s) (ha : s.args.length ≤ 253) : Sound s.encoded := by
  obtain ⟨hargs, -, hack, hrx, hcin, hdin, hdata⟩ := h.buffers
  refine ⟨⟨hargs, ?_, hack, hrx, hcin, hdin, hdata⟩, h.moves, h.poll, h.clock⟩
  show (wireFrame tfiToChip (s.opcode :: s.args)).length ≤ 262
  rw [wireFrame_length, List.length_cons]
  omega

/-- LIMIT never exceeds MAX_ATTEMPTS (R190). -/
theorem limit_le (c : Config) (t : Word16) : (limit c t).toNat ≤ c.maxAttempts.toNat := by
  rw [limit, BitVec.toNat_ofNat]
  exact (Nat.mod_le _ _).trans (Nat.min_le_left _ _)

theorem Sound.enterAckWait {s : State} (h : Sound s) : Sound (enterAckWait s) :=
  ⟨h.buffers, h.moves, ⟨Nat.zero_le _, limit_le s.cfg s.tack⟩, h.clock⟩

theorem Sound.enterResponseWait {s : State} (h : Sound s) : Sound (enterResponseWait s) :=
  ⟨h.buffers, h.moves, ⟨Nat.zero_le _, limit_le s.cfg s.tresp⟩, h.clock⟩

theorem Sound.hostWrite {s : State} {w : HostWrite} (h : Sound s) (hw : moveFits (.write w) = true) :
    Sound (hostWrite w s) := by
  obtain ⟨hargs, htx, hack, hrx, hcin, hdin, hdata⟩ := h.buffers
  cases w with
  | args bs =>
    exact ⟨⟨of_decide_eq_true hw, htx, hack, hrx, hcin, hdin, hdata⟩, h.moves, h.poll, h.clock⟩
  | cin bs =>
    exact ⟨⟨hargs, htx, hack, hrx, of_decide_eq_true hw, hdin, hdata⟩, h.moves, h.poll, h.clock⟩
  | din bs =>
    exact ⟨⟨hargs, htx, hack, hrx, hcin, of_decide_eq_true hw, hdata⟩, h.moves, h.poll, h.clock⟩
  | opcode | tmode | t1 | t2 | cinTfi => exact ⟨h.buffers, h.moves, h.poll, h.clock⟩

theorem Sound.writeRequest {s : State} {args : List Byte} (h : Sound s) (op : Byte) (tm : Timeout)
    (ha : args.length ≤ 255) : Sound (writeRequest op args tm s) := by
  have hargs : Sound (Machine.hostWrite (.args args) (Machine.hostWrite (.opcode op) s)) :=
    (h.hostWrite rfl).hostWrite (decide_eq_true ha)
  cases tm with
  | single t => exact (hargs.hostWrite (w := .tmode .single) rfl).hostWrite (w := .t1 t) rfl
  | dual a r =>
    exact ((hargs.hostWrite (w := .tmode .dual) rfl).hostWrite (w := .t1 a) rfl).hostWrite (w := .t2 r) rfl

/-- The queue without its first move. -/
theorem Sound.tail {s : State} {m : HostMove} {q : List HostMove} (h : Sound s) (hq : s.hostq = m :: q) :
    Sound { s with hostq := q } :=
  ⟨h.buffers, fun x hx => h.moves x (by rw [hq]; exact List.mem_cons_of_mem m hx), h.poll, h.clock⟩

theorem Sound.head {s : State} {m : HostMove} {q : List HostMove} (h : Sound s) (hq : s.hostq = m :: q) :
    moveFits m = true :=
  h.moves m (by rw [hq]; exact List.mem_cons_self)

/-! ### Through a request -/

/-- What a first part and every continuation keep, their sequence keeps. -/
theorem state_bind_of {α β : Type} {P : State → Prop} {r : Run α} {f : α → State → Run β} (hr : P r.state)
    (hf : ∀ a u, P u → P (f a u).state) : P (r.bind f).state := by
  cases r with
  | ok a u => exact hf a u hr
  | err e u => exact hr

theorem Sound.startRequest {s : State} (h : Sound s) : Sound (startRequest s).state := by
  rcases startRequest_cases s with ⟨-, hr⟩ | ⟨ha, ⟨rx, l, hr, e, -⟩ | ⟨-, l, es, hr, e, -⟩⟩ <;> rw [hr]
  · exact h.storeBudgets
  · exact (((h.encoded ha).setAwake true).setLink (l := l) e).setPhase _
  · exact (h.encoded ha).setLink (l := l) e

theorem Sound.sendCommand {s : State} (h : Sound s) : Sound (sendCommand s).state :=
  state_bind_of (h.attempted (sendFrame_attempted s) (Nat.zero_le _)) fun _ _ hu => hu.setPhase _

/-- The ACK wait stays within the attempts left, however it ends (R220 to R222). -/
theorem ackWait_attempted {n : Nat} {s : State} (hb : s.pollcnt.toNat ≤ s.polllim.toNat) (hn : s.attemptsLeft < n) :
    ∃ k, k ≤ s.attemptsLeft ∧ Attempted s k (ackWait n s).state := by
  obtain ⟨a, k, l, ha, hw⟩ := ackWait_cases n s hb hn
  rcases hw with ⟨hr, hk, -, es, e, -⟩ | ⟨hk, ⟨es, ⟨hr, -⟩ | ⟨hr, -⟩, -, -, e⟩ | ⟨hr, es, fs, e, -⟩⟩ <;>
    exact ⟨k, by rw [State.attemptsLeft]; omega, by rw [hr]; exact .acked k ha e⟩

theorem Sound.ackWait {n : Nat} {s : State} (h : Sound s) (hn : s.attemptsLeft < n) : Sound (ackWait n s).state := by
  obtain ⟨k, hk, hu⟩ := ackWait_attempted h.poll.1 hn
  exact h.attempted hu hk

theorem Sound.acceptResponse {s : State} {tfi : Byte} {p : List Byte} (h : Sound s) (hp : p.length ≤ 262) :
    Sound (acceptResponse tfi p s).state := by
  rw [Machine.acceptResponse]
  split
  next d hd => exact (h.setResult ((correlate_length hd).trans hp)).setPhase _
  next => exact h

theorem Sound.responseWait {s : State} (h : Sound s) : Sound (responseWait s).state := by
  obtain ⟨b, k, l, hb, hk, hx⟩ := responseWait_cases s
  rcases hx with ⟨hr, -, e⟩ | ⟨-, ⟨hr, es, e, -⟩ | ⟨hlen, -, e, hr⟩⟩ <;> rw [hr]
  · exact h.attempted (.responded k hb e) hk
  · exact h.attempted (.responded k hb e) hk
  · have hu : Sound (s.responded b k l) := h.attempted (.responded k hb e) hk
    split
    next tfi p hd =>
      have := decodeFrame_length hd
      have := s.cfg.rxCount_legal.2
      exact hu.acceptResponse (by omega)
    next => exact hu

theorem Sound.requestBody {s : State} (h : Sound s) : Sound (requestBody s).state := by
  rw [requestBody_eq]
  refine state_bind_of h.startRequest fun _ u hu => state_bind_of hu.sendCommand fun _ v hv => ?_
  refine state_bind_of (hv.enterAckWait.ackWait ?_) fun _ w hw => hw.enterResponseWait.responseWait
  simp

theorem Sound.settle {α : Type} {r : Run α} (h : Sound r.state) : Sound (settle r) := by
  cases r with
  | ok a u => exact h
  | err e u => exact h.failEntry e

theorem Sound.runRequest {s : State} (h : Sound s) : Sound (runRequest s) := h.requestBody.settle.setPhase _

/-! ### STATUS and the loaded request -/

theorem requestLoaded_of_not_inFlight {s : State} (h : inFlight s.phase = false) : RequestLoaded s := by
  intro h'
  rw [h] at h'
  cases h'

/-- The legality of STATUS once an operation has ended in Idle. -/
theorem statusLegal_of_idle {s : State} (hp : s.phase = .idle) (h : ∀ e, s.status = .error e → isBlockError e = true) :
    StatusLegal s := by
  refine ⟨h, fun hd => ?_, fun hf => ?_⟩
  · rw [hp] at hd; cases hd
  · rw [hp] at hf; cases hf

/-- In Idle the invariant asks for its sound part and a legal STATUS. -/
theorem Sound.inv_of_idle {s : State} (h : Sound s) (hp : s.phase = .idle)
    (hs : ∀ e, s.status = .error e → isBlockError e = true) : s.Inv :=
  inv_iff.2 ⟨h, statusLegal_of_idle hp hs, requestLoaded_of_not_inFlight (by rw [hp]; rfl)⟩

theorem FailedWith.isBlockError {e e' : Err} {t : State} (h : FailedWith e t) (he : isBlockError e = true)
    (h' : t.status = .error e') : isBlockError e' = true := by
  rw [h.1] at h'
  injection h' with h'
  rw [← h', he]

theorem isBlockError_of_isFrameError {e : Err} (h : isFrameError e = true) : isBlockError e = true := by
  cases e <;> simp [isFrameError] at h <;> rfl

/-- The outcomes of a request are the block's own codes (R106, R280). -/
theorem RequestOutcome.isBlockError {s t : State} {es : List Event} (h : RequestOutcome s t es) {e : Err}
    (he : t.status = .error e) : isBlockError e = true := by
  cases h with
  | tooLarge _ hs => rw [hs] at he; cases he; rfl
  | wakeFault _ _ _ ht | sendFault _ _ _ ht | ackTimeout _ _ _ _ _ ht | ackFault _ _ _ _ _ _ ht
  | nak _ _ _ _ _ ht | respTimeout _ _ _ _ _ _ ht | respFault _ _ _ _ _ _ _ ht => exact ht.isBlockError rfl he
  | read _ _ _ _ _ _ _ _ _ _ _ _ _ ht =>
    rcases ht with ⟨hs, -⟩ | ⟨e', hf, hk⟩
    · rw [hs] at he; cases he
    · refine hf.isBlockError ?_ he
      rcases hk with hk | rfl
      · exact isBlockError_of_isFrameError hk
      · rfl

theorem runRequest_inv {s : State} (h : Sound s) : (runRequest s).Inv := by
  obtain ⟨hp, -, es, -, ho⟩ := runRequest_cases s
  exact h.runRequest.inv_of_idle hp fun _ => ho.isBlockError

/-! ### The host's moves -/

theorem encode_inv {s t : State} (h : Sound s) (hp : s.phase = .idle) (hx : execEncode s = .next t) : t.Inv := by
  rw [execEncode] at hx
  split at hx <;> injection hx with hx <;> subst hx
  next f hf =>
    obtain ⟨hl, rfl⟩ := encodeFrame_eq_ok hf
    refine (h.setResult ?_).inv_of_idle hp nofun
    rw [wireFrame_length]
    omega
  next e he =>
    obtain ⟨rfl, -⟩ := encodeFrame_err_kind he
    exact (h.failPure _).inv_of_idle hp fun _ hs => by cases hs; rfl

theorem decode_inv {s t : State} (h : Sound s) (hp : s.phase = .idle) (hx : execDecode s = .next t) : t.Inv := by
  rw [execDecode] at hx
  split at hx <;> injection hx with hx <;> subst hx
  next tfi p hd =>
    have hr : Sound { s with rtfi := tfi } := ⟨h.buffers, h.moves, h.poll, h.clock⟩
    obtain ⟨-, -, -, -, -, hdin, -⟩ := h.buffers
    have := decodeFrame_length hd
    exact (hr.setResult (by omega)).inv_of_idle hp nofun
  next e he =>
    exact (h.failPure _).inv_of_idle hp fun _ hs => by cases hs; exact isBlockError_of_decodeFrame he

theorem wake_inv {s t : State} (h : Sound s) (hp : s.phase = .idle) (hx : execWake s = .next t) : t.Inv := by
  rw [execWake, if_neg (by simp [busy_iff, hp])] at hx
  rcases wakeStep_cases s with ⟨rx, l, hw, -, e, -⟩ | ⟨l, es, hw, e, -⟩ <;> rw [hw] at hx <;> injection hx with hx <;>
    subst hx
  · exact (((h.setAwake true).setLink (l := l) e).setResult (Nat.zero_le _)).inv_of_idle hp nofun
  · exact (((h.setLink e).failPure _).setAwake false).inv_of_idle hp fun _ hs => by cases hs; rfl

/-- An operation that the host starts in Idle ends in the invariant (R104, R109). -/
theorem hostOperation_inv {i : Instr} {s t : State} (h : Sound s) (hp : s.phase = .idle) (hi : IsHostOperation i)
    (hx : exec i s = .next t) : t.Inv := by
  rcases hi with rfl | rfl | rfl | rfl
  · exact encode_inv h hp hx
  · exact decode_inv h hp hx
  · obtain ⟨-, rfl⟩ := exec_request_next hx
    exact runRequest_inv h
  · exact wake_inv h hp hx

theorem pseudo_inv {i : Instr} {s t : State} (h : Sound s) (hi : isPseudo i = true) (hw : WellFormed i = true)
    (hx : exec i s = .next t) : t.Inv := by
  obtain ⟨op, args, tm, parse, onErr, hc, ha⟩ := exec_pseudo hi s
  rw [hc] at hx
  obtain ⟨-, r, rfl⟩ := callEngine_next hx
  obtain ⟨hs, hl, hr⟩ := inv_iff.1 (runRequest_inv (h.writeRequest op tm (ha hw)))
  exact inv_iff.2 ⟨hs.setRet r, hl, hr⟩

/-! ### The transitions -/

theorem Attempted.requestLoaded {s u : State} {k : Nat} (h : RequestLoaded s) (hu : Attempted s k u) :
    RequestLoaded u := by
  cases hu; exact h

theorem Attempted.statusLegal {s u : State} {k : Nat} (h : StatusLegal s) (hu : Attempted s k u) :
    StatusLegal u := by
  cases hu; exact h

/-- From one phase of a command in flight to the next: the loaded request stays, and the bound is the phase's. -/
theorem Transition.inv {s t : State} (h : s.Inv) (ht : Transition s t) : t.Inv := by
  obtain ⟨hs, hl, hr⟩ := inv_iff.1 h
  refine inv_iff.2 ?_
  cases ht with
  | sent hu hp =>
    obtain ⟨ha, hf, hb, -⟩ := hu.requestLoaded hr (by rw [hu.phase, hp]; rfl)
    exact ⟨(hs.attempted hu (Nat.zero_le _)).setPhase _, ⟨(hu.statusLegal hl).1, nofun, nofun⟩,
      fun _ => ⟨ha, hf, hb, nofun, nofun⟩⟩
  | enterAckWait hp =>
    obtain ⟨ha, hf, hb, -⟩ := hr (by rw [hp]; rfl)
    exact ⟨hs.enterAckWait, ⟨hl.1, nofun, nofun⟩, fun _ => ⟨ha, hf, hb, fun _ => rfl, nofun⟩⟩
  | waited hu hk => exact ⟨hs.attempted hu hk, hu.statusLegal hl, hu.requestLoaded hr⟩
  | enterResponseWait hu hp =>
    obtain ⟨ha, hf, hb, -⟩ := hu.requestLoaded hr (by rw [hu.phase, hp]; rfl)
    exact ⟨(hs.attempted hu (Nat.zero_le _)).enterResponseWait, ⟨(hu.statusLegal hl).1, nofun, nofun⟩,
      fun _ => ⟨ha, hf, hb, nofun, fun _ => rfl⟩⟩
  | accepted hu hd =>
    exact ⟨((hs.attempted hu (Nat.zero_le _)).setResult hd).setPhase _, ⟨nofun, fun _ => rfl, nofun⟩,
      requestLoaded_of_not_inFlight rfl⟩
  | @failed _ e hu he =>
    exact ⟨(hs.attempted hu (Nat.zero_le _)).failEntry e, ⟨fun _ h => by cases h; exact he, nofun, fun _ => ⟨e, rfl⟩⟩,
      requestLoaded_of_not_inFlight rfl⟩
  | returned => exact ⟨hs.setPhase .idle, statusLegal_of_idle rfl hl.1, requestLoaded_of_not_inFlight rfl⟩

/-! ### The obligations -/

/-- Settles O55: a host's move in Idle ends in Idle with its buffers fitting, and every transition of a busy state keeps the
loaded request. -/
theorem stepKeepsInvariant : Obligations.StepKeepsInvariant := by
  intro s t h hstep
  by_cases hp : s.phase = .idle
  · obtain ⟨hs, hl, -⟩ := inv_iff.1 h
    rcases step_idle_next hp hstep with rfl | ⟨w, q, hq, rfl⟩ | ⟨m, q, i, hq, hi | ⟨rfl, hi⟩, hx⟩
    · exact h
    · refine ((hs.tail hq).hostWrite (hs.head hq)).inv_of_idle ?_ ?_ <;> rw [hostWrite_frame]
      · exact hp
      · exact hl.1
    · exact hostOperation_inv (hs.tail hq) hp hi hx
    · exact pseudo_inv (hs.tail hq) hi (hs.head hq) hx
  · exact (transition_of_step hp hstep).inv h

theorem construct_inv (c : Config) : (State.construct c).Inv := by
  refine Sound.inv_of_idle ⟨?_, nofun, ?_, ⟨rfl, rfl⟩⟩ rfl nofun
  · simp [BuffersFit, State.construct]
  · simp [PollBounded, State.construct]

/-- Settles O56: construction leaves empty buffers, no outcome, and an empty trace with SEL deasserted. -/
theorem invariantAtReset : Obligations.InvariantAtReset := fun c =>
  ⟨construct_inv c, construct_inv _, fun _ => ⟨rfl, rfl⟩⟩

end Sys2Proof.Machine
end

section
/-! PROOFS. A request does not depend on stale registers (R35, R230): two states that agree on the registers a request
reads run alike, the view of what they agree on growing as registers are written. -/

namespace Sys2Proof.Machine

/-! ### Computations that run alike -/

/-- Two states agree on a view of their registers, and on the link. -/
def Agree {β : Type} (view : State → β) (s u : State) : Prop := view s = view u ∧ s.link = u.link

/-- A view that does not look at the link. -/
def IgnoresLink {β : Type} (view : State → β) : Prop := ∀ l s, view (s.setLink l) = view s

/-- Two computations end alike: with the same value in states related by Q, or with the same error in states related by
E. -/
inductive Alike {α : Type} (Q E : State → State → Prop) : Run α → Run α → Prop
  | ok (a : α) {s u : State} (h : Q s u) : Alike Q E (.ok a s) (.ok a u)
  | err (e : Err) {s u : State} (h : E s u) : Alike Q E (.err e s) (.err e u)

section
variable {α β γ : Type} {P Q E : State → State → Prop} {view : State → β} {s u : State}

theorem Alike.bind {r r' : Run α} {f g : α → State → Run γ} (h : Alike P E r r')
    (hf : ∀ a s u, P s u → Alike Q E (f a s) (g a u)) : Alike Q E (r.bind f) (r'.bind g) := by
  cases h with
  | ok a h => exact hf a _ _ h
  | err e h => exact .err e h

theorem Alike.mono {F : State → State → Prop} {r r' : Run α} (h : Alike P E r r') (hp : ∀ s u, P s u → Q s u)
    (he : ∀ s u, E s u → F s u) : Alike Q F r r' := by
  cases h with
  | ok a h => exact .ok a (hp _ _ h)
  | err e h => exact .err e (he _ _ h)

theorem Agree.setLink (hv : IgnoresLink view) (h : Agree view s u) (l : Link) :
    Agree view (s.setLink l) (u.setLink l) :=
  ⟨by rw [hv, hv, h.1], rfl⟩

/-- A primitive depends on the link alone. -/
theorem alike_prim (hv : IgnoresLink view) (p : Link → Option α × Link) (h : Agree view s u) :
    Alike (Agree view) (Agree view) (s.prim p) (u.prim p) := by
  rw [State.prim, State.prim, h.2]
  split
  · exact .ok _ (h.setLink hv _)
  · exact .err _ (h.setLink hv _)

/-- A bracket receives the same bytes, and stores them. -/
theorem alike_bracket {δ : Type} {view' : State → δ} (hv : IgnoresLink view) (hv' : IgnoresLink view')
    {store : List Byte → State → State} (hs : ∀ rx s u, Agree view s u → Agree view' (store rx s) (store rx u))
    (he : ∀ s u, Agree view' s u → Agree view s u) (tx : List Byte) (h : Agree view s u) :
    Alike (Agree view') (Agree view) (bracket tx store s) (bracket tx store u) :=
  (alike_prim hv _ h).bind fun _ _ _ h => (alike_prim hv _ h).bind fun rx _ _ h =>
    (alike_prim hv' _ (hs rx _ _ h)).mono (fun _ _ h => h) he

end

/-! ### The views -/

/-- What S1 and S2 read or keep for later: configuration, opcode, budgets, frame and AWAKE. -/
def State.loadedView (s : State) : Config × Byte × Word16 × Word16 × List Byte × Bool :=
  (s.cfg, s.opcode, s.tack, s.tresp, s.txbuf, s.awake)

/-- What the waits read besides. -/
def State.waitView (s : State) : (Config × Byte × Word16 × Word16 × List Byte × Bool) × Word16 × Word16 :=
  (s.loadedView, s.pollcnt, s.polllim)

/-- What a failure leaves of the registers of the outcome: the failure entry writes the others. -/
abbrev SameAwake : State → State → Prop := Agree State.awake

/-- The outcome of a request. -/
def State.outcomeView (s : State) : Status × List Byte × Bool × Phase := (s.status, s.rdata, s.awake, s.phase)

theorem loadedView_ignoresLink : IgnoresLink State.loadedView := fun _ _ => rfl

theorem waitView_ignoresLink : IgnoresLink State.waitView := fun _ _ => rfl

theorem Agree.sameAwake_of_loaded {s u : State} (h : Agree State.loadedView s u) : SameAwake s u :=
  ⟨congrArg (fun v => v.2.2.2.2.2) h.1, h.2⟩

theorem Agree.loaded_of_wait {s u : State} (h : Agree State.waitView s u) : Agree State.loadedView s u :=
  ⟨congrArg Prod.fst h.1, h.2⟩

theorem Agree.cfg {s u : State} (h : Agree State.loadedView s u) : s.cfg = u.cfg := congrArg Prod.fst h.1

theorem agree_wait_iff {s u : State} :
    Agree State.waitView s u ↔ Agree State.loadedView s u ∧ s.pollcnt = u.pollcnt ∧ s.polllim = u.polllim := by
  simp only [Agree, State.waitView, Prod.mk.injEq]
  tauto

theorem agree_loaded_iff {s u : State} :
    Agree State.loadedView s u ↔ (s.cfg = u.cfg ∧ s.opcode = u.opcode ∧ s.tack = u.tack ∧ s.tresp = u.tresp ∧
      s.txbuf = u.txbuf ∧ s.awake = u.awake) ∧ s.link = u.link := by
  simp only [Agree, State.loadedView, Prod.mk.injEq]

/-! ### The waits -/

theorem alike_failedAttempt {s u : State} (h : Agree State.waitView s u) :
    Alike (Agree State.waitView) (Agree State.waitView) (failedAttempt s) (failedAttempt u) := by
  have hs : Alike (Agree State.waitView) (Agree State.waitView) (sleepInterval s) (sleepInterval u) := by
    rw [sleepInterval, sleepInterval, h.loaded_of_wait.cfg]
    exact alike_prim waitView_ignoresLink _ h
  refine hs.bind fun _ s u h => .ok _ (agree_wait_iff.2 ?_)
  obtain ⟨hl, hc, hm⟩ := agree_wait_iff.1 h
  exact ⟨hl, congrArg (· + 1) hc, hm⟩

theorem alike_pollLoop (n : Nat) {s u : State} (h : Agree State.waitView s u) :
    Alike (Agree State.waitView) (Agree State.waitView) (pollLoop n s) (pollLoop n u) := by
  induction n generalizing s u with
  | zero => exact .ok _ h
  | succ n ih =>
    refine (alike_prim waitView_ignoresLink _ h).bind fun r s u h => ?_
    cases r with
    | true => exact .ok _ h
    | false => exact (alike_failedAttempt h).bind fun _ _ _ h => ih h

theorem alike_poll {s u : State} (h : Agree State.waitView s u) :
    Alike (Agree State.waitView) (Agree State.waitView) (poll s) (poll u) := by
  obtain ⟨-, hc, hm⟩ := agree_wait_iff.1 h
  rw [poll, poll, hc, hm]
  exact alike_pollLoop _ h

/-- READACK: ACKBUF holds the same bytes afterwards, whatever it held. -/
theorem alike_readAck {s u : State} (h : Agree State.waitView s u) :
    Alike (Agree fun s => (s.waitView, s.ackbuf)) (Agree State.waitView) (readAck s) (readAck u) := by
  rw [readAck, readAck, h.loaded_of_wait.cfg]
  exact alike_bracket (view' := fun s => (s.waitView, s.ackbuf)) (store := storeAck) waitView_ignoresLink (fun _ _ => rfl)
    (fun rx _ _ h => ⟨congrArg (·, rx) h.1, h.2⟩) (fun _ _ h => ⟨congrArg Prod.fst h.1, h.2⟩) _ h

/-- READRESP: RXBUF holds the same bytes afterwards, whatever it held. -/
theorem alike_readResp {s u : State} (h : Agree State.waitView s u) :
    Alike (Agree fun s => (s.waitView, s.rxbuf)) (Agree State.waitView) (readResp s) (readResp u) := by
  rw [readResp, readResp, h.loaded_of_wait.cfg]
  exact alike_bracket (view' := fun s => (s.waitView, s.rxbuf)) (store := storeResp) waitView_ignoresLink (fun _ _ => rfl)
    (fun rx _ _ h => ⟨congrArg (·, rx) h.1, h.2⟩) (fun _ _ h => ⟨congrArg Prod.fst h.1, h.2⟩) _ h

theorem alike_ackWait (n : Nat) {s u : State} (h : Agree State.waitView s u) :
    Alike (Agree State.waitView) (Agree State.waitView) (ackWait n s) (ackWait n u) := by
  induction n generalizing s u with
  | zero => exact .err _ h
  | succ n ih =>
    refine (alike_poll h).bind fun r s u h => ?_
    cases r with
    | timedOut => exact .err _ h
    | isReady =>
      refine (alike_readAck h).bind fun _ s u h => ?_
      obtain ⟨hw, hb⟩ := Prod.mk.inj h.1
      have hu : Agree State.waitView s u := ⟨hw, h.2⟩
      simp only [hb]
      cases ackMatch u.ackbuf with
      | ack => exact .ok _ hu
      | nak => exact .err _ hu
      | neither => exact (alike_failedAttempt hu).bind fun _ _ _ h => ih h

theorem alike_acceptResponse (tfi : Byte) (p : List Byte) {s u : State} (h : Agree State.waitView s u) :
    Alike (Agree State.outcomeView) (Agree State.waitView) (acceptResponse tfi p s) (acceptResponse tfi p u) := by
  obtain ⟨⟨-, hop, -, -, -, ha⟩, hl⟩ := agree_loaded_iff.1 h.loaded_of_wait
  rw [acceptResponse, acceptResponse, hop]
  cases correlate u.opcode tfi p with
  | ok d => exact .ok _ ⟨congrArg (fun a => (Status.ok, d, a, Phase.done)) ha, hl⟩
  | err e => exact .err _ h

theorem alike_responseWait {s u : State} (h : Agree State.waitView s u) :
    Alike (Agree State.outcomeView) (Agree State.waitView) (responseWait s) (responseWait u) := by
  refine (alike_poll h).bind fun r s u h => ?_
  cases r with
  | timedOut => exact .err _ h
  | isReady =>
    refine (alike_readResp h).bind fun _ s u h => ?_
    obtain ⟨hw, hb⟩ := Prod.mk.inj h.1
    have hu : Agree State.waitView s u := ⟨hw, h.2⟩
    simp only [hb]
    cases decodeFrame u.rxbuf with
    | ok x => exact alike_acceptResponse x.1 x.2 hu
    | err e => exact .err _ hu

/-! ### The start of a request -/

/-- The registers that determine a request agree (R230): T2 counts in DUAL form alone. -/
structure SameRequest (s u : State) : Prop where
  cfg : s.cfg = u.cfg
  opcode : s.opcode = u.opcode
  args : s.args = u.args
  budgets : splitBudgets s.tmode s.t1 s.t2 = splitBudgets u.tmode u.t1 u.t2
  awake : s.awake = u.awake
  link : s.link = u.link

theorem splitBudgets_eq {m : TMode} {t1 t2 t2' : Word16} (h : m = .dual → t2 = t2') :
    splitBudgets m t1 t2 = splitBudgets m t1 t2' := by
  cases m with
  | single => rfl
  | dual => rw [h rfl]

theorem alike_sendFrame {s u : State} (h : Agree State.loadedView s u) :
    Alike (Agree State.loadedView) (Agree State.loadedView) (sendFrame s) (sendFrame u) := by
  obtain ⟨⟨-, -, -, -, hx, -⟩, -⟩ := agree_loaded_iff.1 h
  rw [sendFrame, sendFrame, hx]
  exact alike_bracket loadedView_ignoresLink loadedView_ignoresLink (fun _ _ _ h => h) (fun _ _ h => h) _ h

theorem alike_sendCommand {s u : State} (h : Agree State.loadedView s u) :
    Alike (Agree State.loadedView) (Agree State.loadedView) (sendCommand s) (sendCommand u) :=
  (alike_sendFrame h).bind fun _ _ _ h => .ok _ h

theorem alike_wakeStep {s u : State} (h : Agree State.loadedView s u) :
    Alike (Agree State.loadedView) (Agree State.loadedView) (wakeStep s) (wakeStep u) := by
  rw [wakeStep, wakeStep, h.cfg]
  refine (alike_bracket loadedView_ignoresLink loadedView_ignoresLink (fun _ _ _ h => h) (fun _ _ h => h) _ h).bind
    fun _ s u h => .ok _ (agree_loaded_iff.2 ?_)
  obtain ⟨⟨hc, ho, ht, hr, hx, -⟩, hl⟩ := agree_loaded_iff.1 h
  exact ⟨⟨hc, ho, ht, hr, hx, rfl⟩, hl⟩

theorem alike_wakeIfNeeded {s u : State} (h : Agree State.loadedView s u) :
    Alike (Agree State.loadedView) (Agree State.loadedView) (wakeIfNeeded s) (wakeIfNeeded u) := by
  rw [wakeIfNeeded, wakeIfNeeded, h.sameAwake_of_loaded.1]
  refine Alike.bind (P := Agree State.loadedView) ?_ fun _ _ _ h => .ok _ h
  split
  · exact .ok _ h
  · exact alike_wakeStep h

/-- S0 writes every register that S1 to S7 read, but the polling ones (R214). -/
theorem alike_startRequest {s u : State} (h : SameRequest s u) :
    Alike (Agree State.loadedView) SameAwake (startRequest s) (startRequest u) := by
  have hb := Prod.ext_iff.1 h.budgets
  rw [startRequest, startRequest, loadFrame, loadFrame, h.opcode, h.args]
  cases encodeFrame tfiToChip (u.opcode :: u.args) with
  | ok f =>
    refine (alike_wakeIfNeeded (agree_loaded_iff.2 ?_)).mono (fun _ _ h => h) fun _ _ h => h.sameAwake_of_loaded
    exact ⟨⟨h.cfg, h.opcode, hb.1, hb.2, rfl, h.awake⟩, h.link⟩
  | err e => exact .err _ ⟨h.awake, h.link⟩

/-! ### The whole request -/

theorem alike_afterSend {s u : State} (h : Agree State.loadedView s u) :
    Alike (Agree State.outcomeView) SameAwake (afterSend s) (afterSend u) := by
  obtain ⟨⟨hc, -, ht, -, -, -⟩, -⟩ := agree_loaded_iff.1 h
  have hack : Agree State.waitView (enterAckWait s) (enterAckWait u) :=
    agree_wait_iff.2 ⟨h, rfl, congrArg₂ limit hc ht⟩
  have hrun : Alike (Agree State.outcomeView) (Agree State.waitView) (afterSend s) (afterSend u) := by
    rw [afterSend, afterSend, hc, ht]
    refine (alike_ackWait _ hack).bind fun _ s u h => alike_responseWait (agree_wait_iff.2 ?_)
    obtain ⟨⟨hc, -, -, hr, -, -⟩, -⟩ := agree_loaded_iff.1 h.loaded_of_wait
    exact ⟨h.loaded_of_wait, rfl, congrArg₂ limit hc hr⟩
  exact hrun.mono (fun _ _ h => h) fun _ _ h => h.loaded_of_wait.sameAwake_of_loaded

theorem alike_requestBody {s u : State} (h : SameRequest s u) :
    Alike (Agree State.outcomeView) SameAwake (requestBody s) (requestBody u) := by
  rw [requestBody_eq, requestBody_eq]
  refine (alike_startRequest h).bind fun _ _ _ h => Alike.bind (P := Agree State.loadedView) ?_ fun _ _ _ =>
    alike_afterSend
  exact (alike_sendCommand h).mono (fun _ _ h => h) fun _ _ h => h.sameAwake_of_loaded

/-- The failure entry writes every register of the outcome but AWAKE (R292). -/
theorem Alike.settle {α : Type} {r r' : Run α} (h : Alike (Agree State.outcomeView) SameAwake r r') :
    Agree State.outcomeView (settle r) (settle r') := by
  cases h with
  | ok a h => exact h
  | err e h => exact ⟨congrArg (fun a => (Status.error e, [], keepsAwake e && a, Phase.failed)) h.1, h.2⟩

/-- Settles O34: the two requests run alike from S0 on, which writes the stale registers before they are read. -/
theorem requestIgnoresStaleRegisters : Obligations.RequestIgnoresStaleRegisters := by
  intro s u hs hu hc ho ha hm h1 h2 hw hl
  have hreq : SameRequest s u := ⟨hc, ho, ha, by rw [splitBudgets_eq h2, hm, h1], hw, hl⟩
  obtain ⟨hout, hlink⟩ := (alike_requestBody hreq).settle
  simp only [State.outcomeView, Prod.mk.injEq] at hout
  obtain ⟨hst, hrd, haw, -⟩ := hout
  exact ⟨_, _, exec_request hs, exec_request hu, hst, hrd, haw, rfl, hlink⟩

end Sys2Proof.Machine
end

section
/-! PROOFS. The host's side: construction, operand writes, reads of the results (R22, R30, R36, R37, R105). -/

namespace Sys2Proof.Machine

/-- Settles O1: the stated values are the construction's, and an empty queue makes the step in Idle wait. -/
theorem constructionGivesResetState : Obligations.ConstructionGivesResetState :=
  ⟨fun _ => ⟨rfl, rfl, rfl, rfl, rfl, rfl, rfl, rfl, rfl⟩, rfl⟩

/-- Settles O50: in Idle a write at the head of the queue is the step. -/
theorem hostWritesOneRegister : Obligations.HostWritesOneRegister := fun _ _ _ _ _ _ hp =>
  ⟨step_of_write hp, step_of_write hp, step_of_write hp, step_of_write hp, step_of_write hp, step_of_write hp,
    step_of_write hp, step_of_write hp⟩

/-- The host reads the results in Idle, and there they are what the registers hold (R30). -/
theorem readResults_eq_some_iff {s : State} {r : Results} :
    s.readResults = some r ↔ s.phase = .idle ∧ ⟨s.status.code, s.rtfi, s.rlen, s.readData⟩ = r := by
  by_cases h : s.phase = .idle <;> simp [State.readResults, State.busy, h]

/-- Settles O52: by the two conditions, PHASE for every result register and STATUS for RDATA. -/
theorem hostReadsResultsInIdle : Obligations.HostReadsResultsInIdle := by
  refine fun s => ⟨?_, fun r hr => ?_⟩
  · simp [Option.isSome_iff_exists, readResults_eq_some_iff]
  · obtain ⟨-, rfl⟩ := readResults_eq_some_iff.1 hr
    exact ⟨rfl, rfl, rfl, fun h => if_neg h, fun h => if_pos h⟩

end Sys2Proof.Machine
end

section
/-! PROOFS. The select brackets (R34 (a), R77): the primitives that stand outside a bracket and the bracket as a whole keep
the link closed, so every engine computation, instruction and step made of them does. -/

namespace Sys2Proof.Machine

/-! ### Traces -/

/-- A well-bracketed beginning does not matter to what follows it. -/
theorem wellBracketed_append {es : List Event} (fs : List Event) (h : wellBracketed es = true) :
    wellBracketed (es ++ fs) = wellBracketed fs := by
  induction es using wellBracketed.induct with
  | case1 => rfl
  | case2 _ es ih | case3 _ _ es ih | case4 _ _ _ _ es ih => exact ih h
  | case5 | case6 => simp [wellBracketed] at h

theorem BracketFault.exists_fault {tx : List Byte} {es : List Event} (h : BracketFault tx es) :
    ∃ e ∈ es, isFault e = true := by
  cases h with
  | raise => exact ⟨.select true false, by simp, rfl⟩
  | exchange => exact ⟨.exchange tx none, by simp, rfl⟩
  | lower rx => exact ⟨.select false false, by simp, rfl⟩

/-- Well-bracketed events after a closed link leave it closed where SEL is deasserted again. -/
theorem LinkClosed.extend {s t : State} {es : List Event} (h : LinkClosed s) (e : s.link.Ext t.link es)
    (hes : wellBracketed es = true) (hsel : s.link.sel = false → t.link.sel = false) : LinkClosed t := by
  intro hf
  rw [e.1] at hf ⊢
  obtain ⟨hb, hs⟩ := h fun x hx => hf x (List.mem_append_left es hx)
  exact ⟨(wellBracketed_append es hb).trans hes, hsel hs⟩

/-- After a fault nothing is claimed (R331). -/
theorem linkClosed_of_fault {s t : State} {es : List Event} (e : s.link.Ext t.link es)
    (hf : ∃ x ∈ es, isFault x = true) : LinkClosed t := by
  intro h
  obtain ⟨x, hx, hf⟩ := hf
  have hn := h x (by rw [e.1]; exact List.mem_append_right _ hx)
  rw [hf] at hn
  cases hn

/-! ### The primitives outside a bracket, and the bracket -/

theorem LinkClosed.ready {s : State} (h : LinkClosed s) : LinkClosed (ready s).state := by
  rcases ready_cases s with ⟨b, l, hr, e, hs⟩ | ⟨l, hr, e, hs⟩ <;> rw [hr] <;> exact h.extend e rfl hs.trans

theorem LinkClosed.failedAttempt {s : State} (h : LinkClosed s) : LinkClosed (failedAttempt s).state := by
  rcases failedAttempt_cases s with ⟨l, hr, e, hs⟩ | ⟨l, hr, e, hs⟩ <;> rw [hr] <;> exact h.extend e rfl hs.trans

/-- A bracket deasserts SEL, or stops at a fault (R77, R227). -/
theorem LinkClosed.bracket {s : State} {store : List Byte → State → State} (h : LinkClosed s) (tx : List Byte)
    (hs : StoresBuffer store) : LinkClosed (bracket tx store s).state := by
  rcases bracket_outcome tx hs s with ⟨rx, l, hr, -, e, hsel⟩ | ⟨u, l, es, hr, -, e, hf⟩ <;> rw [hr]
  · exact h.extend e rfl fun _ => hsel
  · exact linkClosed_of_fault e hf.exists_fault

/-! ### The engine's computations -/

theorem LinkClosed.settle {α : Type} {r : Run α} (h : LinkClosed r.state) : LinkClosed (settle r) := by
  cases r <;> exact h

theorem LinkClosed.wakeStep {s : State} (h : LinkClosed s) : LinkClosed (wakeStep s).state :=
  state_bind_of (h.bracket _ discard_storesBuffer) fun _ _ hu => hu

theorem LinkClosed.sendFrame {s : State} (h : LinkClosed s) : LinkClosed (sendFrame s).state :=
  h.bracket _ discard_storesBuffer

theorem LinkClosed.readAck {s : State} (h : LinkClosed s) : LinkClosed (readAck s).state :=
  h.bracket _ storeAck_storesBuffer

theorem LinkClosed.readResp {s : State} (h : LinkClosed s) : LinkClosed (readResp s).state :=
  h.bracket _ storeResp_storesBuffer

theorem LinkClosed.pollLoop {s : State} (h : LinkClosed s) (n : Nat) : LinkClosed (pollLoop n s).state := by
  induction n generalizing s with
  | zero => exact h
  | succ n ih =>
    refine state_bind_of h.ready fun r u hu => ?_
    cases r with
    | true => exact hu
    | false => exact state_bind_of hu.failedAttempt fun _ _ => ih

theorem LinkClosed.poll {s : State} (h : LinkClosed s) : LinkClosed (poll s).state := h.pollLoop _

theorem LinkClosed.sendCommand {s : State} (h : LinkClosed s) : LinkClosed (sendCommand s).state :=
  state_bind_of h.sendFrame fun _ _ hu => hu

theorem LinkClosed.loadFrame {s : State} (h : LinkClosed s) (op : Byte) (args : List Byte) :
    LinkClosed (loadFrame op args s).state := by
  rw [Machine.loadFrame]
  split <;> exact h

theorem LinkClosed.wakeIfNeeded {s : State} (h : LinkClosed s) : LinkClosed (wakeIfNeeded s).state := by
  refine state_bind_of ?_ fun _ _ hu => hu
  split
  · exact h
  · exact h.wakeStep

theorem LinkClosed.startRequest {s : State} (h : LinkClosed s) : LinkClosed (startRequest s).state :=
  state_bind_of (LinkClosed.loadFrame (s := storeBudgets s) h _ _) fun _ _ hu => hu.wakeIfNeeded

theorem LinkClosed.ackWait {s : State} (h : LinkClosed s) (n : Nat) : LinkClosed (ackWait n s).state := by
  induction n generalizing s with
  | zero => exact h
  | succ n ih =>
    refine state_bind_of h.poll fun r u hu => ?_
    cases r with
    | timedOut => exact hu
    | isReady =>
      refine state_bind_of hu.readAck fun _ v hv => ?_
      split
      · exact hv
      · exact hv
      · exact state_bind_of hv.failedAttempt fun _ _ => ih

theorem LinkClosed.acceptResponse {s : State} (h : LinkClosed s) (tfi : Byte) (p : List Byte) :
    LinkClosed (acceptResponse tfi p s).state := by
  rw [Machine.acceptResponse]
  split <;> exact h

theorem LinkClosed.responseWait {s : State} (h : LinkClosed s) : LinkClosed (responseWait s).state := by
  refine state_bind_of h.poll fun r u hu => ?_
  cases r with
  | timedOut => exact hu
  | isReady =>
    refine state_bind_of hu.readResp fun _ v hv => ?_
    split
    · exact hv.acceptResponse _ _
    · exact hv

theorem LinkClosed.requestBody {s : State} (h : LinkClosed s) : LinkClosed (requestBody s).state :=
  state_bind_of h.startRequest fun _ _ hu => state_bind_of hu.sendCommand fun _ v hv =>
    state_bind_of (LinkClosed.ackWait (s := enterAckWait v) hv _) fun _ w hw =>
      LinkClosed.responseWait (s := enterResponseWait w) hw

theorem LinkClosed.runRequest {s : State} (h : LinkClosed s) : LinkClosed (runRequest s) := h.requestBody.settle

/-! ### All instructions -/

/-- An operation that answers a next state keeps the link closed where that state is closed. -/
theorem linkClosed_of_next {u t : State} (hx : (.next u : Host.Outcome State Fault Refusal) = .next t)
    (h : LinkClosed u) : LinkClosed t := by
  injection hx with hx
  exact hx ▸ h

theorem LinkClosed.encode {s t : State} (h : LinkClosed s) (hx : execEncode s = .next t) : LinkClosed t := by
  rw [execEncode] at hx
  split at hx <;> exact linkClosed_of_next hx h

theorem LinkClosed.decode {s t : State} (h : LinkClosed s) (hx : execDecode s = .next t) : LinkClosed t := by
  rw [execDecode] at hx
  split at hx <;> exact linkClosed_of_next hx h

theorem LinkClosed.correlate {tfi : Byte} {p : List Byte} {s t : State} (h : LinkClosed s)
    (hx : execCorrelate tfi p s = .next t) : LinkClosed t := by
  rw [execCorrelate] at hx
  split at hx <;> exact linkClosed_of_next hx h

theorem LinkClosed.wake {s t : State} (h : LinkClosed s) (hx : execWake s = .next t) : LinkClosed t := by
  have hw := h.wakeStep
  rw [execWake] at hx
  split at hx
  · cases hx
  · split at hx
    next hr => rw [hr] at hw; exact linkClosed_of_next hx hw
    next hr => rw [hr] at hw; exact linkClosed_of_next hx hw

theorem LinkClosed.receiveFrame {s : State} (h : LinkClosed s) (tfi : Byte) (p : List Byte) :
    LinkClosed (receiveFrame tfi p s) := by
  unfold Machine.receiveFrame
  split
  case h_1 => exact h.failedAttempt.settle
  case h_2 => exact (h.acceptResponse tfi p).settle
  all_goals exact h

theorem LinkClosed.receiveConstant {f : State → State} {s : State} (h : LinkClosed s) (hf : LinkClosed (f s)) :
    LinkClosed (receiveConstant f s) := by
  unfold Machine.receiveConstant
  split
  case h_1 => exact hf
  all_goals exact h

theorem LinkClosed.infoCmd {op : Byte} {args : List Byte} {s t : State} (h : LinkClosed s)
    (hx : execInfoCmd op args s = .next t) : LinkClosed t := by
  unfold execInfoCmd at hx
  split at hx
  case h_1 => exact linkClosed_of_next hx (state_bind_of (h.loadFrame op args) fun _ _ hu => hu.sendCommand).settle
  all_goals exact linkClosed_of_next hx h

theorem LinkClosed.wakeup {s t : State} (h : LinkClosed s) (hx : execWakeup s = .next t) : LinkClosed t := by
  unfold execWakeup at hx
  split at hx
  case h_1 => exact linkClosed_of_next hx h.wakeStep.settle
  all_goals exact linkClosed_of_next hx h

/-- The writes of a request's operands and the returned value do not touch the link (R105, R260). -/
theorem LinkClosed.callEngine {op : Byte} {args : List Byte} {tm : Timeout} {parse : List Byte → Ret}
    {onErr : Err → Ret} {s t : State} (h : LinkClosed s) (hx : callEngine op args tm parse onErr s = .next t) :
    LinkClosed t := by
  obtain ⟨-, r, rfl⟩ := callEngine_next hx
  have hw : LinkClosed (writeRequest op args tm s) := by cases tm <;> exact h
  exact hw.runRequest

theorem LinkClosed.exec {i : Instr} {s t : State} (h : LinkClosed s) (hx : exec i s = .next t) : LinkClosed t := by
  cases i with
  | encode => exact h.encode hx
  | decode => exact h.decode hx
  | request =>
    obtain ⟨-, rfl⟩ := exec_request_next hx
    exact h.runRequest
  | wake => exact h.wake hx
  | lcs | dcs | ackmatch | expect | limit | split => exact linkClosed_of_next hx h
  | correlate => exact h.correlate hx
  | poll =>
    refine linkClosed_of_next hx (LinkClosed.settle ?_)
    exact state_bind_of h.poll fun _ _ hu => hu
  | wakeStep => exact linkClosed_of_next hx h.wakeStep.settle
  | sendframe => exact linkClosed_of_next hx h.sendFrame.settle
  | readack => exact linkClosed_of_next hx h.readAck.settle
  | readresp => exact linkClosed_of_next hx h.readResp.settle
  | ack | nak => exact linkClosed_of_next hx (h.receiveConstant h)
  | info | infoRsp => exact linkClosed_of_next hx (h.receiveFrame _ _)
  | infoCmd => exact h.infoCmd hx
  | wakeup => exact h.wakeup hx
  | getFirmwareVersion | samConfiguration | readPassiveTarget | inDataExchange => exact h.callEngine hx

/-! ### All steps -/

/-- One attempt of the ACK wait (R220 to R222): a sample, then six bytes read in a bracket where it was true. -/
theorem LinkClosed.ackAttempt {s t : State} (h : LinkClosed s) (hx : ackAttempt s = .next t) : LinkClosed t := by
  have hr := h.ready
  rw [Machine.ackAttempt] at hx
  split at hx
  · exact linkClosed_of_next hx h
  · split at hx
    next hs => rw [hs] at hr; exact linkClosed_of_next hx hr
    next hs => rw [hs] at hr; exact linkClosed_of_next hx hr.failedAttempt.settle
    next u hs =>
      rw [hs] at hr
      have ha : LinkClosed (Machine.readAck u).state := hr.readAck
      split at hx
      next hb => rw [hb] at ha; exact linkClosed_of_next hx ha
      next hb =>
        rw [hb] at ha
        split at hx
        · exact ha.exec hx
        · exact ha.exec hx
        · exact linkClosed_of_next hx ha.failedAttempt.settle

/-- One attempt of the response wait (R223 to R225): a sample, then the response read in a bracket where it was true. -/
theorem LinkClosed.responseAttempt {s t : State} (h : LinkClosed s) (hx : responseAttempt s = .next t) :
    LinkClosed t := by
  have hr := h.ready
  rw [Machine.responseAttempt] at hx
  split at hx
  · exact linkClosed_of_next hx h
  · split at hx
    next hs => rw [hs] at hr; exact linkClosed_of_next hx hr
    next hs => rw [hs] at hr; exact linkClosed_of_next hx hr.failedAttempt.settle
    next u hs =>
      rw [hs] at hr
      have ha : LinkClosed (Machine.readResp u).state := hr.readResp
      split at hx
      next hb => rw [hb] at ha; exact linkClosed_of_next hx ha
      next hb =>
        rw [hb] at ha
        split at hx
        · exact ha.exec hx
        · exact linkClosed_of_next hx ha

theorem LinkClosed.step {s t : State} (h : LinkClosed s) (hx : step s = .next t) : LinkClosed t := by
  cases hp : s.phase with
  | idle =>
    rcases step_idle_next hp hx with rfl | ⟨w, q, -, rfl⟩ | ⟨m, q, i, -, -, hi⟩
    · exact h
    · rw [hostWrite_frame]
      exact h
    · exact LinkClosed.exec (s := { s with hostq := q }) h hi
  | wokenUp =>
    rw [Machine.step, advance, hp] at hx
    exact linkClosed_of_next hx h.sendCommand.settle
  | awaitingAck =>
    rw [Machine.step, advance, hp] at hx
    exact h.ackAttempt hx
  | awaitingResponse =>
    rw [Machine.step, advance, hp] at hx
    exact h.responseAttempt hx
  | frameSent | done | failed =>
    rw [Machine.step, advance, hp] at hx
    exact linkClosed_of_next hx h

/-- Settles O57: what a step or an instruction puts on the link is samples, sleeps and whole brackets, or ends in a
fault. -/
theorem bracketsStayClosed : Obligations.BracketsStayClosed := fun _ _ h => ⟨h.step, fun _ => h.exec⟩

end Sys2Proof.Machine
end

section
/-! PROOFS. The encodings (30_encoding.md): the two constants against the frame (R99), the decoder on a frame in either
direction, and decoding what the encoder gives. -/

namespace Sys2Proof
open Sys2Proof.Machine

/-! ### The constants against the frame (R99) -/

theorem decodeFrame_ackFrame (rest : List Byte) : decodeFrame (ackFrame ++ rest) = .err .checksumMismatch :=
  decodeFrame_badLcs 0x00 0xFF (0x00 :: rest) (by decide)

theorem decodeFrame_nakFrame (rest : List Byte) : decodeFrame (nakFrame ++ rest) = .err .checksumMismatch :=
  decodeFrame_badLcs 0xFF 0x00 (0x00 :: rest) (by decide)

/-- What DECODE accepts does not start with a sequence that it rejects whatever follows. -/
theorem take_ne_of_decodeFrame_ok {raw c p : List Byte} {tfi : Byte} {e : Err}
    (hc : ∀ rest, decodeFrame (c ++ rest) = .err e) (h : decodeFrame raw = .ok (tfi, p)) (n : Nat) :
    raw.take n ≠ c := by
  intro hr
  have hraw : c ++ raw.drop n = raw := by rw [← hr, List.take_append_drop]
  have hrej := hc (raw.drop n)
  rw [hraw, h] at hrej
  cases hrej

/-- The first six bytes of a valid frame are Neither (R99). -/
theorem ackMatch_take_of_decodeFrame_ok {raw p : List Byte} {tfi : Byte} (h : decodeFrame raw = .ok (tfi, p)) :
    ackMatch (raw.take 6) = .neither := by
  cases hm : ackMatch (raw.take 6) with
  | ack => exact absurd (ackMatch_eq_ack.1 hm) (take_ne_of_decodeFrame_ok decodeFrame_ackFrame h 6)
  | nak => exact absurd (ackMatch_eq_nak.1 hm) (take_ne_of_decodeFrame_ok decodeFrame_nakFrame h 6)
  | neither => rfl

/-- Settles O12: both constants fail the length checksum, so no valid frame starts with either. -/
theorem ackNakAreNoFrames : Obligations.AckNakAreNoFrames :=
  ⟨fun rest => ⟨decodeFrame_ackFrame rest, decodeFrame_nakFrame rest⟩,
    fun _ _ _ => ackMatch_take_of_decodeFrame_ok, by decide, by decide⟩

/-! ### The decoder on a frame -/

theorem decode_toChip_of_decodeFrame_ok {raw p : List Byte} {tfi : Byte} (h : decodeFrame raw = .ok (tfi, p)) :
    decode .toChip raw = .ok (sentFrame tfi p) (raw.drop (p.length + 8)) := by
  simp only [decode, h]

/-- From the chip a valid frame is taken for neither constant, so DECODE decides (R99, R136). -/
theorem decode_toHost_of_decodeFrame_ok {raw p : List Byte} {tfi : Byte} (h : decodeFrame raw = .ok (tfi, p)) :
    decode .toHost raw = .ok (receivedFrame tfi p) (raw.drop (p.length + 8)) := by
  have hack := take_ne_of_decodeFrame_ok decodeFrame_ackFrame h 6
  have hnak := take_ne_of_decodeFrame_ok decodeFrame_nakFrame h 6
  simp only [decode, if_neg hack, if_neg hnak, h]

theorem drop_wireFrame_append (tfi : Byte) (p rest : List Byte) :
    (wireFrame tfi p ++ rest).drop (p.length + 8) = rest := by
  rw [← wireFrame_length tfi p, List.drop_left]

theorem decode_toChip_wireFrame {tfi : Byte} {p : List Byte} (h : p.length ≤ 254) (rest : List Byte) :
    decode .toChip (wireFrame tfi p ++ rest) = .ok (sentFrame tfi p) rest := by
  rw [decode_toChip_of_decodeFrame_ok (decodeFrame_wireFrame h rest), drop_wireFrame_append]

theorem decode_toHost_wireFrame {tfi : Byte} {p : List Byte} (h : p.length ≤ 254) (rest : List Byte) :
    decode .toHost (wireFrame tfi p ++ rest) = .ok (receivedFrame tfi p) rest := by
  rw [decode_toHost_of_decodeFrame_ok (decodeFrame_wireFrame h rest), drop_wireFrame_append]

/-! ### Which row a frame is -/

theorem sentFrame_command (op : Byte) (args : List Byte) : sentFrame tfiToChip (op :: args) = .infoCmd op args :=
  rfl

theorem receivedFrame_response (tag : Byte) (data : List Byte) :
    receivedFrame tfiToHost (tag :: data) = .infoRsp tag data :=
  rfl

theorem sentFrame_info {tfi : Byte} (h : tfi ≠ tfiToChip) (p : List Byte) : sentFrame tfi p = .info tfi p := by
  cases p with
  | nil => rfl
  | cons op args => exact if_neg h

theorem receivedFrame_info {tfi : Byte} (h : tfi ≠ tfiToHost) (p : List Byte) :
    receivedFrame tfi p = .info tfi p := by
  cases p with
  | nil => rfl
  | cons tag data => exact if_neg h

/-- A frame from the chip is a row of INFO or INFO.RSP, never a constant. -/
theorem receivedFrame_ne_constant (tfi : Byte) (p : List Byte) :
    receivedFrame tfi p ≠ .ack ∧ receivedFrame tfi p ≠ .nak := by
  unfold receivedFrame
  split
  · split <;> simp
  · simp

/-! ### Decode of encode -/

/-- Where a frame has an encoding its payload fits, and the encoding is the frame of R90 (R133, R134). -/
theorem frameOf_eq_some {tfi : Byte} {p f : List Byte} (h : frameOf tfi p = some f) :
    p.length ≤ 254 ∧ f = wireFrame tfi p := by
  unfold frameOf at h
  split at h
  next f' hf =>
    injection h with h
    exact h ▸ encodeFrame_eq_ok hf
  next => cases h

/-- Settles O54: a selector and a constant are recognised as they stand. A frame is balanced, so DECODE gives back its
direction byte and its payload, and its stream tells which row it is. -/
theorem encodeDecodeRoundTrip : Obligations.EncodeDecodeRoundTrip := by
  intro i bytes rest _ he
  cases i with
  | encode | decode | request | wake | ack | nak =>
    cases he
    rfl
  | info tfi p =>
    obtain ⟨hp, rfl⟩ := frameOf_eq_some he
    by_cases htfi : tfi = tfiToHost
    · have hsource : encodingSource (.info tfi p) = .toChip := if_pos htfi
      have hrow : sentFrame tfi p = .info tfi p := sentFrame_info (by rw [htfi]; decide) p
      rw [hsource, decode_toChip_wireFrame hp, hrow]
    · have hsource : encodingSource (.info tfi p) = .toHost := if_neg htfi
      rw [hsource, decode_toHost_wireFrame hp, receivedFrame_info htfi]
  | infoCmd op args =>
    obtain ⟨hp, rfl⟩ := frameOf_eq_some he
    rw [encodingSource, decode_toChip_wireFrame hp, sentFrame_command]
  | infoRsp tag data =>
    obtain ⟨hp, rfl⟩ := frameOf_eq_some he
    rw [encodingSource, decode_toHost_wireFrame hp, receivedFrame_response]
  | _ => cases he

/-- Settles O53: the decoder run on each word; the frames are those of R90 with their checksums. -/
theorem wordsDecode : Obligations.WordsDecode :=
  ⟨rfl, rfl, rfl, decode_toChip_wireFrame (tfi := 0xD4) (p := [0x14, 0x01, 0x14, 0x01]) (by decide) [],
    decode_toHost_wireFrame (tfi := 0xD5) (p := [0x03, 0x32, 0x01, 0x06, 0x07]) (by decide) [],
    decode_toHost_wireFrame (tfi := 0x00) (p := [0x00]) (by decide) []⟩

end Sys2Proof
end

section
/-! PROOFS. The wire rows by phase (R93, R94, R98, R100, R101): what the block does with a frame it has read, and what
it puts on the link. -/

namespace Sys2Proof.Machine

/-! ### Frames that have been read -/

theorem receiveConstant_of_ne {f : State → State} {s : State} (ha : s.phase ≠ .awaitingAck)
    (hr : s.phase ≠ .awaitingResponse) : receiveConstant f s = s := by
  unfold receiveConstant
  split
  case h_1 h => exact absurd h ha
  case h_2 h => exact absurd h hr
  all_goals rfl

theorem receiveConstant_awaitingAck {f : State → State} {s : State} (h : s.phase = .awaitingAck) :
    receiveConstant f s = f s := by
  rw [receiveConstant, h]

theorem receiveConstant_awaitingResponse {f : State → State} {s : State} (h : s.phase = .awaitingResponse) :
    receiveConstant f s = failEntry .checksumMismatch s := by
  rw [receiveConstant, h]

/-- Settles O41: in the ACK wait by the entry each constant leads to, in the response wait by DECODE's error. -/
theorem ackAndNakByPhase : Obligations.AckAndNakByPhase := by
  refine fun s => ⟨fun h => ⟨?_, ?_⟩, ?_, ?_⟩
  · rw [exec, execAck, receiveConstant_awaitingAck h]
    rfl
  · rw [exec, execNak, receiveConstant_awaitingAck h]
    rfl
  · rintro h i (rfl | rfl)
    · rw [exec, execAck, receiveConstant_awaitingResponse h]
      rfl
    · rw [exec, execNak, receiveConstant_awaitingResponse h]
      rfl
  · rintro ha hr i (rfl | rfl)
    · rw [exec, execAck, receiveConstant_of_ne ha hr]
    · rw [exec, execNak, receiveConstant_of_ne ha hr]

theorem receiveFrame_of_ne {s : State} (ha : s.phase ≠ .awaitingAck) (hr : s.phase ≠ .awaitingResponse) (tfi : Byte)
    (p : List Byte) : receiveFrame tfi p s = s := by
  unfold receiveFrame
  split
  case h_1 h => exact absurd h ha
  case h_2 h => exact absurd h hr
  all_goals rfl

theorem receiveFrame_awaitingAck {s : State} (h : s.phase = .awaitingAck) (tfi : Byte) (p : List Byte) :
    receiveFrame tfi p s = settle (failedAttempt s) := by
  rw [receiveFrame, h]

theorem receiveFrame_awaitingResponse {s : State} (h : s.phase = .awaitingResponse) (tfi : Byte) (p : List Byte) :
    receiveFrame tfi p s = settle (acceptResponse tfi p s) := by
  rw [receiveFrame, h]

/-- INFO.RSP has the meaning of INFO on the same frame. -/
theorem exec_infoRsp (tag : Byte) (data : List Byte) (s : State) :
    exec (.infoRsp tag data) s = exec (.info tfiToHost (tag :: data)) s := rfl

/-- A response handed to CORRELATE and refused (R173, R225). -/
theorem exec_info_refused {s : State} {tfi : Byte} {p : List Byte} {e : Err} (hp : s.phase = .awaitingResponse)
    (h : correlate s.opcode tfi p = .err e) : exec (.info tfi p) s = .next (failEntry e s) := by
  rw [exec, execInfo, receiveFrame_awaitingResponse hp, acceptResponse, h, settle_err]

/-- A response handed to CORRELATE and accepted (R173, R225). -/
theorem exec_info_accepted {s : State} {tfi : Byte} {p d : List Byte} (hp : s.phase = .awaitingResponse)
    (h : correlate s.opcode tfi p = .ok d) : exec (.info tfi p) s = .next ((s.setResult d).setPhase .done) := by
  rw [exec, execInfo, receiveFrame_awaitingResponse hp, acceptResponse, h, settle_ok]

/-! ### The four steps of CORRELATE (R173) -/

theorem correlate_of_tfi_ne {tfi : Byte} (h : tfi ≠ tfiToHost) (op : Byte) (p : List Byte) :
    correlate op tfi p = .err .opcodeMismatch := if_pos h

theorem correlate_nil (op : Byte) : correlate op tfiToHost [] = .err .truncated := rfl

theorem correlate_of_tag_ne {op tag : Byte} (h : tag ≠ expectTag op) (data : List Byte) :
    correlate op tfiToHost (tag :: data) = .err .opcodeMismatch := if_pos h

theorem correlate_expected (op : Byte) (data : List Byte) :
    correlate op tfiToHost (expectTag op :: data) = .ok data := by
  simp [correlate]

/-! ### An information frame by phase -/

/-- A failed attempt whose Sleep returns (R193, R222). -/
theorem failedAttempt_ok {s : State} {z : Answer} {rest : List Answer} (h : s.link.script = z :: rest)
    (hz : z.fault = false) :
    failedAttempt s = .ok () { s with
      pollcnt := s.pollcnt + 1
      link :=
        { s.link with
          elapsedMs := s.link.elapsedMs + s.cfg.intervalMs.toNat, script := rest, calls := s.link.calls + 1
          trace := s.link.trace ++ [.sleep s.cfg.intervalMs.toNat true] } } := by
  rw [failedAttempt, sleep_ok h hz, bind_ok]
  simp [State.countAttempt, State.setLink, Link.record, h]

/-- Settles O42: in the response wait by CORRELATE's steps, in the ACK wait by a failed attempt. -/
theorem informationFrameByPhase : Obligations.InformationFrameByPhase := by
  refine fun s tfi tag p data => ⟨fun hp => ⟨fun h => ?_, ?_, ?_, ?_⟩, ?_, ?_⟩
  · exact exec_info_refused hp (correlate_of_tfi_ne h _ _)
  · exact exec_info_refused hp (correlate_nil _)
  · rintro h i (rfl | rfl)
    · rw [exec_infoRsp]
      exact exec_info_refused hp (correlate_of_tag_ne h _)
    · exact exec_info_refused hp (correlate_of_tag_ne h _)
  · rintro rfl i (rfl | rfl)
    · rw [exec_infoRsp]
      exact exec_info_accepted hp (correlate_expected _ _)
    · exact exec_info_accepted hp (correlate_expected _ _)
  · rintro hp z rest hs hz i (rfl | rfl)
    · rw [exec, execInfoRsp, receiveFrame_awaitingAck hp, failedAttempt_ok hs hz, settle_ok]
    · rw [exec, execInfo, receiveFrame_awaitingAck hp, failedAttempt_ok hs hz, settle_ok]
  · rintro ha hr i (rfl | rfl)
    · rw [exec, execInfoRsp, receiveFrame_of_ne ha hr]
    · rw [exec, execInfo, receiveFrame_of_ne ha hr]

/-! ### Rows that the block sends -/

theorem exec_infoCmd_of_ne {s : State} (h : s.phase ≠ .wokenUp) (op : Byte) (args : List Byte) :
    exec (.infoCmd op args) s = .next s := by
  rw [exec]
  unfold execInfoCmd
  split
  case h_1 hp => exact absurd hp h
  all_goals rfl

theorem exec_infoCmd_wokenUp {s : State} (h : s.phase = .wokenUp) (op : Byte) (args : List Byte) :
    exec (.infoCmd op args) s = .next (settle ((loadFrame op args s).bind fun _ s => sendCommand s)) := by
  rw [exec, execInfoCmd, h]

theorem exec_wakeup_of_ne {s : State} (h : s.phase ≠ .idle) : exec .wakeup s = .next s := by
  rw [exec]
  unfold execWakeup
  split
  case h_1 hp => exact absurd hp h
  all_goals rfl

theorem exec_wakeup_idle {s : State} (h : s.phase = .idle) : exec .wakeup s = .next (settle (wakeStep s)) := by
  rw [exec, execWakeup, h]

/-- ENCODE of a command that fits (R133, R214 S0). -/
theorem loadFrame_ok {args : List Byte} (op : Byte) (s : State) (h : args.length ≤ 253) :
    loadFrame op args s = .ok () (s.setTxbuf (wireFrame tfiToChip (op :: args))) := by
  rw [loadFrame, encodeFrame_ok _ (by simpa using Nat.succ_le_succ h)]

/-- S2 where no primitive faults (R218). -/
theorem sendCommand_hands {s : State} {b : List Byte} {as rest : List Answer} (h : s.link.script = as ++ rest)
    (hh : Hands b as) :
    ∃ rx, rx.length = s.txbuf.length ∧
      sendCommand s = .ok () ((s.setPhase .frameSent).setLink (s.link.afterBracket s.txbuf rx)) :=
  ⟨_, padReceived_length _ _ _, by rw [sendCommand, sendFrame, bracket_hands _ discard_storesBuffer h hh]; rfl⟩

/-- WAKE_STEP where no primitive faults (R196). -/
theorem wakeStep_hands {s : State} {b : List Byte} {as rest : List Answer} (h : s.link.script = as ++ rest)
    (hh : Hands b as) :
    ∃ rx, rx.length = s.cfg.wakeSeq.length ∧
      wakeStep s = .ok () ((s.setAwake true).setLink (s.link.afterBracket s.cfg.wakeSeq rx)) :=
  ⟨_, padReceived_length _ _ _, by rw [wakeStep, bracket_hands _ discard_storesBuffer h hh]; rfl⟩

/-- Settles O43: the phase in which the block sends each row leads to one bracket, the other phases to nothing. -/
theorem sentRowsByPhase : Obligations.SentRowsByPhase := by
  refine fun s op args =>
    ⟨fun hp ha b as rest hs hh => ?_, fun h => exec_infoCmd_of_ne h op args, fun hp b as rest hs hh => ?_,
      exec_wakeup_of_ne⟩
  · obtain ⟨rx, hrx, hsend⟩ := sendCommand_hands (s := s.setTxbuf (wireFrame tfiToChip (op :: args))) hs hh
    refine ⟨rx, by simpa using hrx, ?_⟩
    rw [exec_infoCmd_wokenUp hp, loadFrame_ok op s ha, bind_ok, hsend, settle_ok]
    rfl
  · obtain ⟨rx, hrx, hwake⟩ := wakeStep_hands hs hh
    refine ⟨rx, hrx, ?_⟩
    rw [exec_wakeup_idle hp, hwake, settle_ok]
    rfl

end Sys2Proof.Machine
end

section
/-! PROOFS. The step and the decoder: the instruction a step runs is the one its bytes decode to (R100, R103, R104). -/

namespace Sys2Proof.Machine

/-! ### The host port -/

theorem step_of_command {s : State} {b : Byte} {q : List HostMove} (hp : s.phase = .idle)
    (hq : s.hostq = .command b :: q) : step s = operationPort b { s with hostq := q } := by
  rw [step_of_idle hp, hostMove, hq]

theorem step_of_call {s : State} {i : Instr} {q : List HostMove} (hp : s.phase = .idle)
    (hq : s.hostq = .call i :: q) :
    step s = if isPseudo i then exec i { s with hostq := q } else .refused .notAHostCall := by
  rw [step_of_idle hp, hostMove, hq]

theorem operationPort_of_decode_ok {b : Byte} {i : Instr} {r : List Byte} (h : decode .hostPort [b] = .ok i r)
    (s : State) : operationPort b s = exec i s := by
  rw [operationPort, h]

/-- A byte that selects no operation is refused (R104). -/
theorem operationPort_reserved {b : Byte} (h : decodeSelector b = none) (s : State) :
    operationPort b s = .refused .reservedSelector := by
  rw [operationPort, decode, h]

theorem decodeSelector_eq_none {b : Byte} (h1 : b ≠ 1) (h2 : b ≠ 2) (h3 : b ≠ 3) (h4 : b ≠ 4) :
    decodeSelector b = none := by
  rw [decodeSelector, if_neg h1, if_neg h2, if_neg h3, if_neg h4]

/-- Settles O49: the byte at the head of the queue is the operation port's, which decodes it as a selector. -/
theorem selectorsAndReservedBytes : Obligations.SelectorsAndReservedBytes := by
  intro s q b hp hq
  rw [step_of_command hp hq]
  refine ⟨?_, ?_, ?_, ?_, fun h1 h2 h3 h4 => operationPort_reserved (decodeSelector_eq_none h1 h2 h3 h4) _⟩
  all_goals
    rintro rfl
    exact operationPort_of_decode_ok rfl _

/-! ### The two polling phases -/

/-- A constant is decoded from its own six bytes alone (R93, R94). -/
theorem take_of_decode_toHost_constant {bytes r : List Byte} {i : Instr} (h : decode .toHost bytes = .ok i r)
    (hi : i = .ack ∨ i = .nak) :
    i = .ack ∧ bytes.take 6 = ackFrame ∨ i = .nak ∧ bytes.take 6 = nakFrame := by
  simp only [decode] at h
  split at h
  next hack =>
    injection h with h
    exact .inl ⟨h.symm, hack⟩
  next =>
    split at h
    next hnak =>
      injection h with h
      exact .inr ⟨h.symm, hnak⟩
    next =>
      split at h
      next tfi p _ =>
        injection h with h
        obtain ⟨hack, hnak⟩ := receivedFrame_ne_constant tfi p
        rcases hi with rfl | rfl
        · exact absurd h hack
        · exact absurd h hnak
      next => cases h

/-- READACK leaves six bytes in ACKBUF (R212). -/
theorem ackbuf_length_of_readAck {s u : State} (h : readAck s = .ok () u) : u.ackbuf.length = 6 := by
  rcases readAck_cases s with ⟨rx, l, h', hrx, -⟩ | ⟨a, l, es, h', -⟩
  · rw [h] at h'
    injection h' with _ hu
    rw [hu]
    exact hrx
  · rw [h] at h'
    cases h'

theorem not_bound_reached {s : State} (h : s.pollcnt.toNat < s.polllim.toNat) : ¬ s.polllim ≤ s.pollcnt :=
  BitVec.not_le.2 h

/-- A ready attempt of the ACK wait executes the constant it has read (R222). -/
theorem ackAttempt_of_decode {s t u : State} {i : Instr} {r : List Byte} (hlt : s.pollcnt.toNat < s.polllim.toNat)
    (ht : ready s = .ok true t) (hu : readAck t = .ok () u) (hd : decode .toHost u.ackbuf = .ok i r)
    (hi : i = .ack ∨ i = .nak) : ackAttempt s = exec i u := by
  have htake : u.ackbuf.take 6 = u.ackbuf := List.take_of_length_le (ackbuf_length_of_readAck hu).le
  rw [ackAttempt, if_neg (not_bound_reached hlt), ht]
  simp only [hu]
  rcases take_of_decode_toHost_constant hd hi with ⟨rfl, hb⟩ | ⟨rfl, hb⟩
  · rw [ackMatch_eq_ack.2 (htake.symm.trans hb)]
  · rw [ackMatch_eq_nak.2 (htake.symm.trans hb)]

/-- A ready attempt of the response wait executes the frame it has read (R225). -/
theorem responseAttempt_of_decodeFrame {s t u : State} {tfi : Byte} {p : List Byte}
    (hlt : s.pollcnt.toNat < s.polllim.toNat) (ht : ready s = .ok true t) (hu : readResp t = .ok () u)
    (hd : decodeFrame u.rxbuf = .ok (tfi, p)) : responseAttempt s = exec (receivedFrame tfi p) u := by
  rw [responseAttempt, if_neg (not_bound_reached hlt), ht]
  simp only [hu, hd]

/-- Settles O48: by the host's move in Idle, and by a ready attempt in each of the two waits. -/
theorem stepRunsDecodedInstruction : Obligations.StepRunsDecodedInstruction := by
  refine fun s => ⟨fun b q i r hp hq hd => ?_, fun i q hp hq => ⟨fun hi => ?_, fun hi => ?_⟩,
    fun t u i r hp hlt ht hu hd hi => ?_, fun t u tfi p hp hlt ht hu hd => ?_⟩
  · rw [step_of_command hp hq, operationPort_of_decode_ok hd]
  · rw [step_of_call hp hq, if_pos hi]
  · rw [step_of_call hp hq, if_neg (by rw [hi]; decide)]
  · rw [step, advance, hp]
    exact ackAttempt_of_decode hlt ht hu hd hi
  · rw [step, advance, hp]
    exact responseAttempt_of_decodeFrame hlt ht hu hd

end Sys2Proof.Machine
end

section
/-! PROOFS. The two checksums (R131, R132): their values on natural numbers, and the one byte that each validity test
accepts. -/

namespace Sys2Proof
open Sys2Proof.Machine

theorem lcs_toNat (len : Byte) : (lcs len).toNat = (256 - len.toNat) % 256 := by
  rw [lcs_eq, BitVec.toNat_ofNat]

theorem dcs_toNat (tfi : Byte) (p : List Byte) :
    (dcs tfi p).toNat = (256 - (tfi.toNat + natSum p) % 256) % 256 := by
  rw [dcs_eq, BitVec.toNat_ofNat]

/-- Two bytes that bring the same sum to 0 mod 256 are equal. -/
theorem byte_eq_of_balance {n : Nat} {a b : Byte} (ha : (n + a.toNat) % 256 = 0) (hb : (n + b.toNat) % 256 = 0) :
    a = b := by
  apply BitVec.eq_of_toNat_eq
  have := a.isLt
  have := b.isLt
  omega

theorem lcs_balances (len : Byte) : (len.toNat + (lcs len).toNat) % 256 = 0 := by
  have := len.isLt
  rw [lcs_toNat]
  omega

theorem dcs_balances (tfi : Byte) (p : List Byte) : (natSum (tfi :: p) + (dcs tfi p).toNat) % 256 = 0 := by
  rw [dcs_toNat, natSum_cons]
  omega

theorem dcs_perm {p q : List Byte} (tfi : Byte) (h : p.Perm q) : dcs tfi p = dcs tfi q := by
  rw [dcs, dcs, byteSum_perm h]

/-- Settles O3: LCS balances the length, and a balancing byte is unique. -/
theorem lcsIsTwosComplementOfLength : Obligations.LcsIsTwosComplementOfLength := fun len _ =>
  ⟨lcs len, rfl, lcs_toNat len, lcsOk_iff len,
    fun _ => ⟨fun hl => byte_eq_of_balance hl (lcs_balances len), by rintro rfl; exact lcs_balances len⟩⟩

/-- Settles O4: DCS balances direction byte and payload, and a sum does not see the order of its terms. -/
theorem dcsBalancesTheData : Obligations.DcsBalancesTheData := fun tfi p _ =>
  ⟨dcs tfi p, rfl, dcs_toNat tfi p, dcsOk_iff, (dcsOk_iff _ _).2 (dcs_balances tfi p),
    fun _ hq => by simp only [exec, execDcs, dcs_perm tfi hq]⟩

end Sys2Proof
end

section
/-! PROOFS. ENCODE (R133 to R135): as a host operation, inside REQUEST, and what it guarantees of its frame. -/

namespace Sys2Proof.Machine

/-! ### The instruction -/

theorem exec_encode_ok {s : State} (h : s.cin.length ≤ 254) :
    exec .encode s = .next (s.setResult (wireFrame s.cinTfi s.cin)) := by
  rw [exec, execEncode, encodeFrame_ok _ h]

theorem exec_encode_tooLarge {s : State} (h : 255 ≤ s.cin.length) :
    exec .encode s = .next (failPure .payloadTooLarge s) := by
  rw [exec, execEncode, encodeFrame_err _ h]

theorem loadFrame_tooLarge {args : List Byte} (op : Byte) (s : State) (h : 254 ≤ args.length) :
    loadFrame op args s = .err .payloadTooLarge s := by
  rw [loadFrame, encodeFrame_err _ (by simpa using Nat.succ_le_succ h)]

/-- Settles O5: the four cases of a payload that fits or does not, as operand and inside REQUEST. -/
theorem encodeBuildsFrameOrFails : Obligations.EncodeBuildsFrameOrFails := fun s =>
  ⟨fun h => ⟨exec_encode_ok h, wireFrame_length s.cinTfi s.cin⟩, exec_encode_tooLarge,
    fun op _ => ⟨loadFrame_ok op s, loadFrame_tooLarge op s⟩⟩

end Sys2Proof.Machine

namespace Sys2Proof
open Sys2Proof.Machine

/-! ### The guarantees -/

theorem slice_frameShape_payload (len l tfi : Byte) (p : List Byte) (c b : Byte) (rest : List Byte) :
    slice (frameShape len l tfi p c b rest) 6 (6 + p.length) = p := by
  simp [slice, frameShape, Nat.add_comm 6]

theorem slice_frameShape_data (len l tfi : Byte) (p : List Byte) (c b : Byte) (rest : List Byte) :
    slice (frameShape len l tfi p c b rest) 5 (7 + p.length) = tfi :: p ++ [c] := by
  simp [slice, frameShape, Nat.add_comm 7, List.take_append]

theorem getD_frameShape_postamble (len l tfi : Byte) (p : List Byte) (c b d : Byte) (rest : List Byte) :
    (frameShape len l tfi p c b rest).getD (p.length + 7) d = b := by
  simp [frameShape]

/-- Direction byte, payload and checksum byte of a balanced sequence add up to 0 (R135). -/
theorem Balanced.natSum_data {len l tfi c : Byte} {p : List Byte} (h : Balanced len l tfi p c) :
    natSum (tfi :: p ++ [c]) % 256 = 0 := by
  obtain ⟨-, -, hd⟩ := h
  simpa [Nat.add_assoc] using hd

/-- DECODE gives back what ENCODE was given (R140). -/
theorem decodeFrame_of_encodeFrame {tfi : Byte} {p f : List Byte} (h : encodeFrame tfi p = .ok f) :
    decodeFrame f = .ok (tfi, p) := by
  obtain ⟨hp, rfl⟩ := encodeFrame_eq_ok h
  simpa using decodeFrame_wireFrame (tfi := tfi) hp []

/-- ENCODE is injective, because DECODE undoes it (R135). -/
theorem encodeFrame_inj {tfi tfi' : Byte} {p p' f : List Byte} (h : encodeFrame tfi p = .ok f)
    (h' : encodeFrame tfi' p' = .ok f) : tfi' = tfi ∧ p' = p := by
  have heq := (decodeFrame_of_encodeFrame h').symm.trans (decodeFrame_of_encodeFrame h)
  injection heq with heq
  exact Prod.mk.inj heq

/-- Settles O6: every guarantee is read off the frame's balanced shape; injectivity is the round trip. -/
theorem encodedFrameGuarantees : Obligations.EncodedFrameGuarantees := by
  intro tfi p f _ hf
  obtain ⟨hp, rfl⟩ := encodeFrame_eq_ok hf
  refine ⟨wireFrame_length tfi p, ?_⟩
  obtain ⟨len, l, c, hshape, hb⟩ := wireFrame_shape (tfi := tfi) hp
  have ⟨hlen, hsum, _⟩ := hb
  refine ⟨rfl, ?_, ?_, rfl, ?_, ?_, ?_, fun _ _ => encodeFrame_inj hf⟩ <;> rw [hshape]
  · exact hlen
  · exact hsum
  · exact slice_frameShape_payload ..
  · rw [slice_frameShape_data, hb.natSum_data]
  · exact getD_frameShape_postamble ..

end Sys2Proof
end

section
/-! PROOFS. DECODE (R136, R137, R142): its steps said once each, by arithmetic on natural numbers. -/

namespace Sys2Proof
open Sys2Proof.Machine

/-! ### The steps -/

/-- Step 1: a sequence that does not start with the preamble. -/
theorem decodeFrame_badPreamble {raw : List Byte} (h : raw.take 3 ≠ preamble) :
    decodeFrame raw = .err .badPreamble :=
  if_pos (.inr h)

section
variable {raw : List Byte} {n : Nat} (hpre : raw.take 3 = preamble) (hn : (raw.getD 3 0).toNat = n)
include hpre

/-- Step 1 is passed. -/
theorem not_badStart : ¬ (raw.length < 3 ∨ slice raw 0 3 ≠ preamble) := by
  have hlen : (raw.take 3).length = 3 := by rw [hpre]; rfl
  rw [List.length_take] at hlen
  exact not_or.2 ⟨by omega, not_not.2 hpre⟩

/-- Step 2: no LEN or no LCS byte. -/
theorem decodeFrame_noHeader (h : raw.length < 5) : decodeFrame raw = .err .truncated := by
  rw [decodeFrame, if_neg (not_badStart hpre), if_pos h]

include hn

/-- Steps 3 to 7 in their order, once the header is there. -/
theorem decodeFrame_eq_ite (h5 : 5 ≤ raw.length) :
    decodeFrame raw =
      if (n + (raw.getD 4 0).toNat) % 256 ≠ 0 then .err .checksumMismatch
      else if n = 0 ∨ raw.length < n + 7 then .err .truncated
      else if (natSum (slice raw 5 (5 + n)) + (raw.getD (5 + n) 0).toNat) % 256 ≠ 0 then .err .checksumMismatch
      else .ok (raw.getD 5 0, slice raw 6 (5 + n)) := by
  have hlcs := lcsOk_iff (raw.getD 3 0) (raw.getD 4 0)
  have hdcs := dcsOk_iff (slice raw 5 (5 + n)) (raw.getD (5 + n) 0)
  have hzero : raw.getD 3 0 = 0 ↔ n = 0 := by rw [← hn, BitVec.toNat_eq]; rfl
  rw [hn] at hlcs
  rw [decodeFrame, if_neg (not_badStart hpre), if_neg (Nat.not_lt.2 h5)]
  simp only [hn, ← Bool.not_eq_true, hlcs, hdcs, hzero, ite_or, ne_eq]

/-- Step 3: LEN and LCS do not add up to 0. -/
theorem decodeFrame_badHeaderSum (h5 : 5 ≤ raw.length) (hsum : (n + (raw.getD 4 0).toNat) % 256 ≠ 0) :
    decodeFrame raw = .err .checksumMismatch := by
  rw [decodeFrame_eq_ite hpre hn h5, if_pos hsum]

variable (hsum : (n + (raw.getD 4 0).toNat) % 256 = 0)
include hsum

/-- Steps 4 and 5: no direction byte, or fewer bytes than LEN requires. -/
theorem decodeFrame_truncated (h5 : 5 ≤ raw.length) (h : n = 0 ∨ raw.length < n + 7) :
    decodeFrame raw = .err .truncated := by
  rw [decodeFrame_eq_ite hpre hn h5, if_neg (not_not.2 hsum), if_pos h]

variable (h0 : n ≠ 0) (hlen : n + 7 ≤ raw.length)
include h0 hlen

/-- Step 6: the data and its checksum byte do not add up to 0. -/
theorem decodeFrame_badDataSum (hd : (natSum (slice raw 5 (5 + n)) + (raw.getD (5 + n) 0).toNat) % 256 ≠ 0) :
    decodeFrame raw = .err .checksumMismatch := by
  rw [decodeFrame_eq_ite hpre hn (by omega), if_neg (not_not.2 hsum), if_neg (not_or.2 ⟨h0, by omega⟩), if_pos hd]

/-- Step 7: every check has passed. -/
theorem decodeFrame_accepts (hd : (natSum (slice raw 5 (5 + n)) + (raw.getD (5 + n) 0).toNat) % 256 = 0) :
    decodeFrame raw = .ok (raw.getD 5 0, slice raw 6 (5 + n)) := by
  rw [decodeFrame_eq_ite hpre hn (by omega), if_neg (not_not.2 hsum), if_neg (not_or.2 ⟨h0, by omega⟩),
    if_neg (not_not.2 hd)]

end

/-! ### The instruction -/

theorem exec_decode_ok {s : State} {tfi : Byte} {p : List Byte} (h : decodeFrame s.din = .ok (tfi, p)) :
    exec .decode s = .next { s with status := .ok, rtfi := tfi, rdata := p } := by
  rw [exec, execDecode, h]
  rfl

theorem exec_decode_err {s : State} {e : Err} (h : decodeFrame s.din = .err e) :
    exec .decode s = .next { s with status := .error e, rdata := [] } := by
  rw [exec, execDecode, h]
  rfl

/-- Settles O7: one step of DECODE for each clause. -/
theorem decodeChecksInOrder : Obligations.DecodeChecksInOrder := by
  rintro s _ n rfl hn
  exact ⟨fun hpre => exec_decode_err (decodeFrame_badPreamble hpre),
    fun hpre h => exec_decode_err (decodeFrame_noHeader hpre h),
    fun hpre h5 hsum => exec_decode_err (decodeFrame_badHeaderSum hpre hn h5 hsum),
    fun hpre h5 hsum h => exec_decode_err (decodeFrame_truncated hpre hn hsum h5 h),
    fun hpre hsum h0 hlen hd => exec_decode_err (decodeFrame_badDataSum hpre hn hsum h0 hlen hd),
    fun hpre hsum h0 hlen hd => exec_decode_ok (decodeFrame_accepts hpre hn hsum h0 hlen hd)⟩

/-! ### The results -/

/-- BadPreamble is the answer of step 1 alone (R137). -/
theorem decodeFrame_eq_badPreamble_iff (raw : List Byte) :
    decodeFrame raw = .err .badPreamble ↔ raw.take 3 ≠ preamble := by
  refine ⟨fun h hpre => ?_, decodeFrame_badPreamble⟩
  by_cases h5 : raw.length < 5
  · rw [decodeFrame_noHeader hpre h5] at h
    cases h
  · rw [decodeFrame_eq_ite hpre rfl (by omega)] at h
    split_ifs at h <;> cases h

/-- A payload that DECODE returns is what is left of the bytes it was given without header and trailer (R96). -/
theorem length_of_decodeFrame_ok {raw p : List Byte} {tfi : Byte} (h : decodeFrame raw = .ok (tfi, p)) :
    p.length ≤ 254 ∧ p.length + 8 ≤ raw.length := by
  obtain ⟨len, l, c, b, rest, rfl, hlen, -⟩ := decodeFrame_eq_ok h
  have := len.isLt
  simp only [frameShape, List.length_cons, List.length_append]
  omega

/-- Settles O8: an accepted payload is shorter than its bytes, an error is one of three, and only step 1 gives
BadPreamble. -/
theorem decodeIsTotal : Obligations.DecodeIsTotal := by
  intro raw
  constructor
  · cases h : decodeFrame raw with
    | ok r =>
      obtain ⟨tfi, p⟩ := r
      exact .inl ⟨tfi, p, rfl, length_of_decodeFrame_ok h⟩
    | err e => rcases decodeFrame_err_kind h with rfl | rfl | rfl <;> simp
  · have hprefix : [0x00, 0x00, 0xFF] <+: raw ↔ raw.take 3 = preamble := List.prefix_iff_eq_take.trans eq_comm
    rw [decodeFrame_eq_badPreamble_iff, hprefix]

end Sys2Proof
end

section
/-! PROOFS. The round trip of the codec, and which changes of a frame DECODE sees (R138, R140, R141). -/

namespace Sys2Proof
open Sys2Proof.Machine

/-! ### The round trip (R140) -/

/-- The relations of R91 fix both checksums and LEN. -/
theorem Balanced.unique {len len' l l' tfi c c' : Byte} {p : List Byte} (h : Balanced len l tfi p c)
    (h' : Balanced len' l' tfi p c') : len = len' ∧ l = l' ∧ c = c' := by
  obtain ⟨hlen, hsum, hd⟩ := h
  obtain ⟨hlen', hsum', hd'⟩ := h'
  obtain rfl : len = len' := BitVec.eq_of_toNat_eq (hlen.trans hlen'.symm)
  exact ⟨rfl, byte_eq_of_balance hsum hsum', byte_eq_of_balance hd hd'⟩

/-- The frame of R90 is the one balanced sequence with its direction byte and payload, postamble 0 and nothing after. -/
theorem Balanced.wireFrame_eq {len l tfi c : Byte} {p : List Byte} (h : Balanced len l tfi p c)
    (hp : p.length ≤ 254) : wireFrame tfi p = frameShape len l tfi p c 0x00 [] := by
  obtain ⟨_, _, _, hshape, hb⟩ := wireFrame_shape (tfi := tfi) hp
  obtain ⟨rfl, rfl, rfl⟩ := h.unique hb
  exact hshape

/-- Whatever DECODE accepts is the frame of what it returns, up to the postamble (R140). -/
theorem encodeFrame_of_decodeFrame {raw p : List Byte} {tfi : Byte} (h : decodeFrame raw = .ok (tfi, p)) :
    encodeFrame tfi p = .ok (raw.take ((raw.getD 3 0).toNat + 6) ++ [0x00]) := by
  obtain ⟨hp, -⟩ := length_of_decodeFrame_ok h
  obtain ⟨len, l, c, b, rest, rfl, hb⟩ := decodeFrame_eq_ok h
  have hlen : ((frameShape len l tfi p c b rest).getD 3 0).toNat = p.length + 1 := hb.1
  rw [encodeFrame_ok _ hp, hb.wireFrame_eq hp, hlen]
  simp [frameShape, List.take_append]

/-- Settles O9: DECODE undoes ENCODE, and ENCODE undoes DECODE up to the postamble. -/
theorem codecRoundTrip : Obligations.CodecRoundTrip :=
  ⟨fun tfi _ hp => ⟨_, encodeFrame_ok tfi hp, decodeFrame_of_encodeFrame (encodeFrame_ok tfi hp)⟩,
    fun tfi _ => encodeFrame_err tfi, fun _ _ _ => encodeFrame_of_decodeFrame⟩

/-! ### Postamble and tail (R138) -/

theorem getD_eq_of_take_eq {s t : List Byte} {m i : Nat} (h : s.take m = t.take m) (hi : i < m) :
    s.getD i 0 = t.getD i 0 := by
  have hget := congrArg (·.getD i 0) h
  simpa [List.getElem?_take_of_lt hi] using hget

theorem slice_eq_of_take_eq {s t : List Byte} {m j : Nat} (h : s.take m = t.take m) (i : Nat) (hj : j ≤ m) :
    slice s i j = slice t i j := by
  have htake := congrArg (·.take j) h
  simp only [List.take_take, Nat.min_eq_left hj] at htake
  rw [slice, slice, htake]

/-- Of bytes that reach the postamble, DECODE reads only those before it. -/
theorem decodeFrame_eq_of_take_eq {raw raw' : List Byte} {n : Nat} (hn : (raw.getD 3 0).toNat = n)
    (hlen : n + 7 ≤ raw.length) (hlen' : n + 7 ≤ raw'.length) (h : raw'.take (n + 6) = raw.take (n + 6)) :
    decodeFrame raw' = decodeFrame raw := by
  have hget {i : Nat} (hi : i < n + 6) := getD_eq_of_take_eq h hi
  have hslice (i : Nat) {j : Nat} (hj : j ≤ n + 6) := slice_eq_of_take_eq h i hj
  have hpre : raw'.take 3 = raw.take 3 := hslice 0 (by omega)
  by_cases hp : raw.take 3 = preamble
  · rw [decodeFrame_eq_ite hp hn (by omega),
      decodeFrame_eq_ite (hpre.trans hp) (by rw [hget (by omega), hn]) (by omega), hget (by omega), hget (by omega),
      hget (by omega), hslice 5 (by omega), hslice 6 (by omega)]
    simp only [Nat.not_lt.2 hlen, Nat.not_lt.2 hlen']
  · rw [decodeFrame_badPreamble hp, decodeFrame_badPreamble (hpre ▸ hp)]

/-- The postamble's value is not compared, and bytes after it are ignored (R138). -/
theorem decodeFrame_set_postamble_append {raw : List Byte} {n : Nat} (hn : (raw.getD 3 0).toNat = n)
    (hlen : n + 7 ≤ raw.length) (b : Byte) (extra : List Byte) :
    decodeFrame (raw.set (n + 6) b ++ extra) = decodeFrame raw := by
  refine decodeFrame_eq_of_take_eq hn hlen (by simp; omega) ?_
  rw [List.take_append_of_le_length (by simp; omega), List.take_set_of_le (by omega)]

/-- LEN counts direction byte and payload; the whole frame has LEN + 7 bytes (R96). -/
theorem getD_len_of_encodeFrame {tfi : Byte} {p f : List Byte} (h : encodeFrame tfi p = .ok f) :
    (f.getD 3 0).toNat + 7 = f.length := by
  obtain ⟨hp, rfl⟩ := encodeFrame_eq_ok h
  obtain ⟨len, l, c, hshape, hlen, -⟩ := wireFrame_shape (tfi := tfi) hp
  have hget : ((wireFrame tfi p).getD 3 0).toNat = p.length + 1 := by rw [hshape]; exact hlen
  rw [hget, wireFrame_length]

/-- The last byte of a frame may be any, and any bytes may follow it. -/
theorem decodeFrame_set_last_append {tfi : Byte} {p f : List Byte} (h : encodeFrame tfi p = .ok f) (b : Byte)
    (extra : List Byte) : decodeFrame (f.set (f.length - 1) b ++ extra) = .ok (tfi, p) := by
  have hlen := getD_len_of_encodeFrame h
  rw [← hlen]
  exact (decodeFrame_set_postamble_append rfl hlen.le b extra).trans (decodeFrame_of_encodeFrame h)

/-- A frame without its postamble is one byte short (R136 step 5). -/
theorem decodeFrame_without_postamble {tfi : Byte} {p f : List Byte} (h : encodeFrame tfi p = .ok f) :
    decodeFrame (f.take (f.length - 1)) = .err .truncated := by
  obtain ⟨hp, rfl⟩ := encodeFrame_eq_ok h
  obtain ⟨len, l, c, hshape, hlen, hsum, -⟩ := wireFrame_shape (tfi := tfi) hp
  have htake : (wireFrame tfi p).take ((wireFrame tfi p).length - 1) =
      0x00 :: 0x00 :: 0xFF :: len :: l :: tfi :: (p ++ [c]) := by
    rw [wireFrame_length, hshape]
    simp [frameShape, List.take_append]
  rw [htake]
  exact decodeFrame_truncated rfl (n := len.toNat) rfl hsum (by simp) (.inr (by simp [hlen]))

/-- Settles O10: DECODE reads nothing from the postamble on, but counts its byte. -/
theorem decodeIgnoresPostambleAndTail : Obligations.DecodeIgnoresPostambleAndTail :=
  ⟨fun _ extra b hlen => decodeFrame_set_postamble_append rfl hlen b extra,
    fun _ _ _ extra b hf => ⟨decodeFrame_set_last_append hf b extra, decodeFrame_without_postamble hf⟩⟩

/-! ### One changed byte (R141) -/

/-- A sum changes by the difference of the byte that was replaced. -/
theorem natSum_set {s : List Byte} {i : Nat} (h : i < s.length) (b : Byte) :
    natSum (s.set i b) + (s.getD i 0).toNat = natSum s + b.toNat := by
  induction s generalizing i with
  | nil => simp at h
  | cons a s ih =>
    cases i with
    | zero =>
      simp only [List.set_cons_zero, List.getD_cons_zero, natSum_cons]
      omega
    | succ i =>
      have hs := ih (Nat.lt_of_succ_lt_succ h)
      simp only [List.set_cons_succ, List.getD_cons_succ, natSum_cons]
      omega

/-- A sequence whose sum is 0 mod 256 has another sum once one byte of it differs. -/
theorem natSum_set_ne_zero {s : List Byte} {i : Nat} {b : Byte} (hs : natSum s % 256 = 0) (hi : i < s.length)
    (hb : s.getD i 0 ≠ b) : natSum (s.set i b) % 256 ≠ 0 := by
  have hset := natSum_set hi b
  have hne : (s.getD i 0).toNat ≠ b.toNat := fun h => hb (BitVec.eq_of_toNat_eq h)
  have := (s.getD i 0).isLt
  have := b.isLt
  omega

theorem slice_set (s : List Byte) (i j k : Nat) (b : Byte) :
    slice (s.set (i + k) b) i j = (slice s i j).set k b := by
  rw [slice, slice, List.take_set, List.drop_set, if_neg (by omega), Nat.add_sub_cancel_left]

theorem getD_slice (s : List Byte) {i j k : Nat} (h : i + k < j) : (slice s i j).getD k 0 = s.getD (i + k) 0 := by
  simp [slice, List.getElem?_take_of_lt h]

theorem natSum_slice_succ {s : List Byte} {i j : Nat} (hij : i ≤ j) (hj : j < s.length) :
    natSum (slice s i (j + 1)) = natSum (slice s i j) + (s.getD j 0).toNat := by
  have htake : (s.take j).length = j := List.length_take_of_le hj.le
  rw [slice, slice, List.take_add_one, List.drop_append_of_le_length (by omega), natSum_append]
  simp [hj]

/-- A changed byte of the preamble (i in 0..2). -/
theorem decodeFrame_set_preamble {f : List Byte} {i : Nat} {b : Byte} (hf : f.take 3 = preamble)
    (hlen : 3 ≤ f.length) (hi : i < 3) (hb : f.getD i 0 ≠ b) : decodeFrame (f.set i b) = .err .badPreamble := by
  refine decodeFrame_badPreamble fun hpre => hb ?_
  have hget := getD_eq_of_take_eq (hpre.trans hf.symm) hi
  rw [← hget]
  simp [show i < f.length by omega]

section
variable {len l tfi c : Byte} {p : List Byte} (h : Balanced len l tfi p c) (d : Byte) (rest : List Byte)
include h

/-- A changed LEN or LCS (i = 3 or 4). -/
theorem Balanced.decodeFrame_set_header {i : Nat} {b : Byte} (hi : i < 2)
    (hb : (frameShape len l tfi p c d rest).getD (3 + i) 0 ≠ b) :
    decodeFrame ((frameShape len l tfi p c d rest).set (3 + i) b) = .err .checksumMismatch := by
  obtain ⟨-, hsum, -⟩ := h
  have hpair : natSum [len, l] % 256 = 0 := by simpa using hsum
  obtain rfl | rfl : i = 0 ∨ i = 1 := by omega
  · have hne := natSum_set_ne_zero (i := 0) hpair (by simp) hb
    exact decodeFrame_badHeaderSum rfl (n := b.toNat) rfl (by simp [frameShape]) (by simpa [frameShape] using hne)
  · have hne := natSum_set_ne_zero (i := 1) hpair (by simp) hb
    exact decodeFrame_badHeaderSum rfl (n := len.toNat) rfl (by simp [frameShape]) (by simpa [frameShape] using hne)

/-- A changed direction byte, payload byte or DCS (i in 5 .. 5 + LEN). -/
theorem Balanced.decodeFrame_set_data {i : Nat} {b : Byte} (hi : i < p.length + 2)
    (hb : (frameShape len l tfi p c d rest).getD (5 + i) 0 ≠ b) :
    decodeFrame ((frameShape len l tfi p c d rest).set (5 + i) b) = .err .checksumMismatch := by
  have ⟨hlen, hsum, _⟩ := h
  have hlength : len.toNat + 7 ≤ ((frameShape len l tfi p c d rest).set (5 + i) b).length := by
    simp [frameShape]
    omega
  have hslice := slice_frameShape_data len l tfi p c d rest
  have hne : natSum ((tfi :: p ++ [c]).set i b) % 256 ≠ 0 := by
    refine natSum_set_ne_zero h.natSum_data (by simp; omega) ?_
    rwa [← hslice, getD_slice _ (by omega)]
  rw [← hslice, ← slice_set, show 7 + p.length = 5 + len.toNat + 1 by omega,
    natSum_slice_succ (by omega) (by omega)] at hne
  rw [Nat.add_comm 5 i] at hlength hne ⊢
  exact decodeFrame_badDataSum rfl (n := len.toNat) rfl hsum (by omega) hlength hne

end

/-- Two payload bytes changed places: the sum is the same, so DECODE accepts another payload (R132, R141). -/
theorem decodeFrame_swapped : decodeFrame (((wireFrame 0xD4 [0x01, 0x02]).set 6 0x02).set 7 0x01) =
    .ok (0xD4, [0x02, 0x01]) :=
  decodeFrame_of_encodeFrame (by decide)

/-- Settles O11: a change of one byte breaks the preamble, the sum of the header or the sum of the data, or it is the
postamble's. Two payload bytes that change places break none of them. -/
theorem singleByteCorruption : Obligations.SingleByteCorruption := by
  refine ⟨⟨0xD4, [0x01, 0x02], [0x02, 0x01], _, 6, 7, 0x02, 0x01, encodeFrame_ok _ (by decide), by decide,
    by decide, by decide, decodeFrame_swapped, by decide⟩, fun tfi p f i b hf _ hb => ?_⟩
  obtain ⟨hp, rfl⟩ := encodeFrame_eq_ok hf
  refine ⟨fun h3 => decodeFrame_set_preamble rfl (by simp) h3 hb, fun h3 hlast => ?_, fun hlast => ?_⟩
  · rw [wireFrame_length] at hlast
    obtain ⟨len, l, c, hshape, hbal⟩ := wireFrame_shape (tfi := tfi) hp
    rw [hshape] at hb ⊢
    by_cases h5 : i < 5
    · obtain ⟨k, rfl⟩ := Nat.exists_eq_add_of_le h3
      exact hbal.decodeFrame_set_header _ _ (by omega) hb
    · obtain ⟨k, rfl⟩ := Nat.exists_eq_add_of_le (Nat.le_of_not_lt h5)
      exact hbal.decodeFrame_set_data _ _ (by omega) hb
  · have hset := decodeFrame_set_last_append hf b []
    rwa [← hlast, Nat.add_sub_cancel, List.append_nil] at hset

end Sys2Proof
end

section
/-! PROOFS. ACKMATCH, EXPECT and CORRELATE as operations (41_ack_correlator.md). -/

namespace Sys2Proof.Machine

/-! ### ACKMATCH (R170) -/

/-- A sequence other than the two constants is neither, as only the constants give ACK and NAK (R170). -/
theorem ackMatch_eq_neither {b : List Byte} (hack : b ≠ ackFrame) (hnak : b ≠ nakFrame) : ackMatch b = .neither := by
  cases h : ackMatch b with
  | ack => exact absurd (ackMatch_eq_ack.1 h) hack
  | nak => exact absurd (ackMatch_eq_nak.1 h) hnak
  | neither => rfl

/-- ACKMATCH returns the class of ACKBUF and writes no register (R170). -/
theorem exec_ackmatch_of_eq {s : State} {c : AckClass} (h : ackMatch s.ackbuf = c) :
    exec .ackmatch s = .next { s with ret := .ackClass c } := by
  subst h
  rfl

/-- Settles O13: ACKMATCH answers the class of ACKBUF, and each constant is the only sequence of its class. -/
theorem ackMatchComparesSixBytes : Obligations.AckMatchComparesSixBytes := fun _ =>
  ⟨fun hack => exec_ackmatch_of_eq (ackMatch_eq_ack.2 hack), fun hnak => exec_ackmatch_of_eq (ackMatch_eq_nak.2 hnak),
    fun hack hnak => exec_ackmatch_of_eq (ackMatch_eq_neither hack hnak)⟩

/-! ### EXPECT and CORRELATE (R172, R173) -/

theorem expectTag_toNat (op : Byte) : (expectTag op).toNat = (op.toNat + 1) % 256 := BitVec.toNat_add op 1

/-- The expected tag is the opcode plus one mod 256, and the only byte that is (R172). -/
theorem eq_expectTag_iff {tag op : Byte} : tag = expectTag op ↔ tag.toNat = (op.toNat + 1) % 256 := by
  rw [← expectTag_toNat, BitVec.toNat_inj]

/-- EXPECT returns the expected tag of OPCODE and writes no register (R172). -/
theorem exec_expect (s : State) : exec .expect s = .next { s with ret := .byte (expectTag s.opcode) } := rfl

/-- CORRELATE returns the error of its first failed step and writes no register (R173). -/
theorem exec_correlate_of_err {s : State} {tfi : Byte} {p : List Byte} {e : Err}
    (h : correlate s.opcode tfi p = .err e) : exec (.correlate tfi p) s = .next { s with ret := .error e } := by
  rw [exec, execCorrelate, h]
  rfl

/-- CORRELATE returns the data of the response it accepts and writes no register (R173). -/
theorem exec_correlate_of_ok {s : State} {tfi : Byte} {p d : List Byte}
    (h : correlate s.opcode tfi p = .ok d) : exec (.correlate tfi p) s = .next { s with ret := .data d } := by
  rw [exec, execCorrelate, h]
  rfl

/-- Settles O14: EXPECT's byte is the one number mod 256, and CORRELATE stops at the first of its steps that fails. -/
theorem correlateAcceptsOnlyTheResponse : Obligations.CorrelateAcceptsOnlyTheResponse := by
  refine fun s tfi => ⟨⟨_, exec_expect s, expectTag_toNat _⟩, fun htfi p => ?_, ?_,
    fun tag data => ⟨fun htag => ?_, fun htag => ?_⟩⟩
  · exact exec_correlate_of_err (correlate_of_tfi_ne htfi _ p)
  · exact exec_correlate_of_err (correlate_nil _)
  · exact exec_correlate_of_err (correlate_of_tag_ne (mt eq_expectTag_iff.1 htag) data)
  · obtain rfl := eq_expectTag_iff.2 htag
    exact exec_correlate_of_ok (correlate_expected _ data)

end Sys2Proof.Machine
end

section
/-! PROOFS. Budgets and POLL as instructions (42_ready_poll.md sections 1 to 3). -/

namespace Sys2Proof.Machine

/-! ### LIMIT and SPLIT (R190, R191) -/

/-- LIMIT is computed on natural numbers: the minimum with MAX_ATTEMPTS fits sixteen bits (R190). -/
theorem limit_toNat (c : Config) (t : Word16) :
    (limit c t).toNat =
      min c.maxAttempts.toNat ((t.toNat + c.intervalMs.toNat - 1) / c.intervalMs.toNat) :=
  (BitVec.toNat_ofNat _ _).trans (Nat.mod_eq_of_lt ((Nat.min_le_left _ _).trans_lt c.maxAttempts.isLt))

/-- A zero budget allows no attempt (R190). -/
theorem limit_zero (c : Config) : limit c 0 = 0 := by
  have hquot : (0 + c.intervalMs.toNat - 1) / c.intervalMs.toNat = 0 := by
    have := c.interval_pos
    exact Nat.div_eq_of_lt (by omega)
  refine BitVec.eq_of_toNat_eq ?_
  rw [limit_toNat]
  exact (congrArg _ hquot).trans (Nat.min_zero _)

/-- A budget of at most one interval allows one attempt, as MAX_ATTEMPTS is positive (R8, R190). -/
theorem limit_of_le_interval {c : Config} {t : Word16} (hpos : 1 ≤ t.toNat) (hle : t.toNat ≤ c.intervalMs.toNat) :
    limit c t = 1 := by
  have hquot : (t.toNat + c.intervalMs.toNat - 1) / c.intervalMs.toNat = 1 :=
    Nat.div_eq_of_lt_le (by omega) (by omega)
  refine BitVec.eq_of_toNat_eq ?_
  rw [limit_toNat, hquot]
  exact Nat.min_eq_right c.attempts_pos

theorem exec_limit (t : Word16) (s : State) : exec (.limit t) s = .next { s with polllim := limit s.cfg t } := rfl

/-- Settles O15: the value on natural numbers, and the quotient at its two corners. -/
theorem limitIsTheTighterBound : Obligations.LimitIsTheTighterBound := fun t s =>
  ⟨_, exec_limit t s, limit_toNat s.cfg t, fun h => h ▸ limit_zero s.cfg, limit_of_le_interval⟩

theorem exec_split (s : State) : exec .split s = .next (storeBudgets s) := rfl

/-- SPLIT of a dual timeout (R191). -/
theorem storeBudgets_dual {s : State} (h : s.tmode = .dual) :
    storeBudgets s = { s with tack := s.t1, tresp := s.t2 } := by
  rw [storeBudgets, h, splitBudgets]

/-- SPLIT of a single timeout (R191). -/
theorem storeBudgets_single {s : State} (h : s.tmode = .single) :
    storeBudgets s = { s with tack := s.t1 / 2, tresp := s.t1 - s.t1 / 2 } := by
  rw [storeBudgets, h, splitBudgets]

theorem half_toNat (t : Word16) : (t / 2).toNat = t.toNat / 2 := BitVec.toNat_udiv

/-- The rest of a timeout after its half does not wrap (R191). -/
theorem sub_half_toNat (t : Word16) : (t - t / 2).toNat = t.toNat - t.toNat / 2 := by
  have hle : t / 2 ≤ t := BitVec.le_def.2 ((half_toNat t).trans_le (Nat.div_le_self _ _))
  rw [BitVec.toNat_sub_of_le hle, half_toNat]

/-- Settles O16: each form of timeout by its own equation of SPLIT. -/
theorem splitPartitionsTheTimeout : Obligations.SplitPartitionsTheTimeout := by
  refine fun s => ⟨fun h => ?_, fun h => ⟨s.t1 / 2, s.t1 - s.t1 / 2, ?_, half_toNat _, sub_half_toNat _, ?_⟩⟩
  · rw [exec_split, storeBudgets_dual h]
  · rw [exec_split, storeBudgets_single h]
  · rw [half_toNat, sub_half_toNat]
    exact Nat.add_sub_of_le (Nat.div_le_self _ _)

/-! ### POLL with the answers given (R193 to R195) -/

/-- POLL that ends without a fault returns its result (R193). -/
theorem exec_poll_ok {s t : State} {r : PollResult} (h : poll s = .ok r t) :
    exec .poll s = .next { t with ret := .poll r } := by
  rw [exec, execPoll, h]
  rfl

/-- POLL that ends in a fault is the failure entry with BusFault (R227, R292). -/
theorem exec_poll_busFault {s t : State} (h : poll s = .err .busFault t) :
    exec .poll s = .next
      { t with status := .error .busFault, rdata := [], awake := false, phase := .failed } := by
  rw [exec, execPoll, h]
  rfl

/-- Settles O17: all attempts fail, or the first true sample ends POLL. -/
theorem pollOutcomes : Obligations.PollOutcomes := by
  intro s n quiet rest hq
  refine ⟨?_, fun hn r hs hr => exec_poll_ok (poll_isReady hs hq hn hr)⟩
  rintro rfl hs
  exact exec_poll_ok (poll_timedOut hs hq)

section
variable {s : State} {n : Nat} {quiet rest : List Answer} {r z : Answer}
  (hn : n < s.polllim.toNat - s.pollcnt.toNat) (hq : Quiet n quiet)
include hn hq

/-- POLL after n failed attempts that are not all it has left: the bound is not reached, and the signal is sampled
(R193). -/
theorem poll_samples (hs : s.link.script = quiet ++ rest) :
    ∃ m, poll s = (ready (s.waited n)).bind fun level u =>
      if level then .ok .isReady u else (failedAttempt u).bind fun _ u => pollLoop m u := by
  obtain ⟨m, hm⟩ := Nat.exists_eq_add_of_lt hn
  exact ⟨m, by rw [poll, hm, Nat.add_assoc, pollLoop_quiet n (m + 1) s hs hq, pollLoop]⟩

/-- POLL whose Ready faults after n failed attempts. -/
theorem poll_ready_fault (hs : s.link.script = quiet ++ r :: rest) (hr : r.fault = true) :
    poll s = .err .busFault ((s.waited n).setLink ((s.waited n).link.record (.ready none))) := by
  obtain ⟨m, hp⟩ := poll_samples hn hq hs
  rw [hp, ready_err (waited_script hs hq) hr, bind_err]

/-- POLL whose Sleep faults after n failed attempts: the clock counts that Sleep too (log entry 6). -/
theorem poll_sleep_fault (hs : s.link.script = quiet ++ r :: z :: rest) (hr : r.fault = false)
    (hl : r.level = false) (hz : z.fault = true) :
    ∃ l, poll s = .err .busFault ((s.waited n).setLink l) ∧
      l.trace = (s.waited n).link.trace ++ [.ready (some false), .sleep s.cfg.intervalMs.toNat false] ∧
      l.elapsedMs = (s.waited n).link.elapsedMs + s.cfg.intervalMs.toNat := by
  obtain ⟨m, hp⟩ := poll_samples hn hq hs
  have hw := waited_script hs hq
  rw [hp, ready_ok hw hr, bind_ok, hl, if_neg Bool.false_ne_true, failedAttempt,
    sleep_err (a := z) (as := rest) (by simp [hw]) hz, bind_err, bind_err, setLink_setLink]
  exact ⟨_, rfl, List.append_assoc _ _ _, rfl⟩

end

/-- Settles O18: the failed attempts, then the primitive that faulted. -/
theorem pollFaultIsBusFault : Obligations.PollFaultIsBusFault := by
  refine fun s n quiet rest r z hn hq => ⟨fun hs hr => ?_, fun hs hr hl hz => ?_⟩
  · exact ⟨_, exec_poll_busFault (poll_ready_fault hn hq hs hr), rfl, rfl⟩
  · obtain ⟨l, hp, ht, he⟩ := poll_sleep_fault hn hq hs hr hl hz
    refine ⟨_, exec_poll_busFault hp, rfl, ht, he.trans ?_⟩
    simp [State.waited, Nat.add_mul, Nat.add_assoc]

/-! ### POLL whatever the environment answers (R194 (a)) -/

@[simp] theorem countP_isReadyCall_waitEvents (ms n : Nat) : (waitEvents ms n).countP isReadyCall = n := by
  induction n with
  | zero => rfl
  | succ n ih => rw [waitEvents_succ, List.countP_append, ih]; exact Nat.add_comm 1 n

@[simp] theorem countP_isSleepCall_waitEvents (ms n : Nat) : (waitEvents ms n).countP isSleepCall = n := by
  induction n with
  | zero => rfl
  | succ n ih => rw [waitEvents_succ, List.countP_append, ih]; exact Nat.add_comm 1 n

theorem waitEvents_noFault (ms n : Nat) : ∀ e ∈ waitEvents ms n, isFault e = false := by
  induction n with
  | zero => exact nofun
  | succ n ih => simpa [waitEvents, isFault] using ih

/-- The primitives of at most n attempts: one sample and one sleep each (R193). -/
structure WithinAttempts (n : Nat) (es : List Event) : Prop where
  samples : es.countP isReadyCall ≤ n
  sleeps : es.countP isSleepCall ≤ n
  total : es.length ≤ 2 * n

/-- k failed attempts and the events of one more that did not complete, where more than k are left. -/
theorem WithinAttempts.waits {k n : Nat} {fs : List Event} (ms : Nat) (hk : k < n) (hf : WithinAttempts 1 fs) :
    WithinAttempts n (waitEvents ms k ++ fs) := by
  obtain ⟨hready, hsleep, hlen⟩ := hf
  constructor <;> simp <;> omega

/-- How POLL can end, by its events (R193, R194): its result returned where no primitive faulted, the failure entry where
the last one did. -/
theorem poll_ends (s : State) :
    ∃ k l es, s.link.Ext l es ∧ WithinAttempts s.attemptsLeft es ∧
      ((∃ r, poll s = .ok r (s.counted k l)) ∧ (∀ e ∈ es, isFault e = false) ∨
        poll s = .err .busFault (s.counted k l) ∧ ∃ e ∈ es, isFault e = true) := by
  obtain ⟨k, l, -, ⟨hp, rfl, e⟩ | ⟨hp, hk, e⟩ | ⟨hp, hk, e | e⟩⟩ := pollLoop_cases s.attemptsLeft s
  · exact ⟨_, l, _, e, ⟨by simp, by simp, by simp⟩, .inl ⟨⟨_, hp⟩, waitEvents_noFault _ _⟩⟩
  · refine ⟨k, l, _, e, .waits _ hk ⟨le_rfl, Nat.zero_le _, Nat.le_succ _⟩, .inl ⟨⟨_, hp⟩, fun ev hev => ?_⟩⟩
    rcases List.mem_append.1 hev with hev | hev
    · exact waitEvents_noFault _ _ ev hev
    · rw [List.mem_singleton.1 hev]; rfl
  · exact ⟨k, l, _, e, .waits _ hk ⟨le_rfl, Nat.zero_le _, Nat.le_succ _⟩, .inr ⟨hp, .ready none, by simp, rfl⟩⟩
  · exact ⟨k, l, _, e, .waits _ hk ⟨le_rfl, le_rfl, le_rfl⟩,
      .inr ⟨hp, .sleep s.cfg.intervalMs.toNat false, by simp, rfl⟩⟩

/-- Settles O19: POLL's two ends, told apart by whether an event is a fault. -/
theorem pollIsBoundedAlways : Obligations.PollIsBoundedAlways := by
  intro s
  obtain ⟨k, l, es, e, hb, ⟨⟨r, hp⟩, hclear⟩ | ⟨hp, ev, hev, hfault⟩⟩ := poll_ends s
  · refine ⟨_, es, exec_poll_ok hp, e.1, hb.samples, hb.sleeps, hb.total, fun _ => rfl, ?_⟩
    rintro ⟨ev, hev, hfault⟩
    exact absurd hfault (Bool.eq_false_iff.1 (hclear ev hev))
  · refine ⟨_, es, exec_poll_busFault hp, e.1, hb.samples, hb.sleeps, hb.total, fun hclear => ?_, fun _ => rfl⟩
    exact absurd hfault (Bool.eq_false_iff.1 (hclear ev hev))

end Sys2Proof.Machine
end

section
/-! PROOFS. The link operations as instructions, and WAKE (R196, R198, R211 to R213). -/

namespace Sys2Proof.Machine

/-! ### One bracket without a fault -/

section
variable {s : State} {bytes : List Byte} {as rest : List Answer} (hs : s.link.script = as ++ rest)
  (hh : Hands bytes as)
include hs hh

/-- A bracket that is handed as many bytes as it sends stores these bytes (R61, R77). -/
theorem bracket_hands_exactly {tx : List Byte} {store : List Byte → State → State} (hst : StoresBuffer store)
    (hlen : bytes.length = tx.length) :
    bracket tx store s = .ok () ((store bytes s).setLink (s.link.afterBracket tx bytes)) := by
  rw [bracket_hands tx hst hs hh, ← hlen, padReceived_full]

/-- SENDFRAME where no primitive faults (R211). -/
theorem sendFrame_hands :
    ∃ rx, rx.length = s.txbuf.length ∧ sendFrame s = .ok () (s.setLink (s.link.afterBracket s.txbuf rx)) :=
  ⟨_, padReceived_length _ _ _, bracket_hands _ discard_storesBuffer hs hh⟩

/-- READACK where no primitive faults (R212). -/
theorem readAck_hands (hlen : bytes.length = 6) :
    readAck s = .ok () ((storeAck bytes s).setLink (s.link.afterBracket s.ackProbe bytes)) :=
  bracket_hands_exactly hs hh storeAck_storesBuffer (by simpa using hlen)

/-- READRESP where no primitive faults (R213). -/
theorem readResp_hands (hlen : bytes.length = s.cfg.rxCount.toNat) :
    readResp s = .ok () ((storeResp bytes s).setLink (s.link.afterBracket s.respProbe bytes)) :=
  bracket_hands_exactly hs hh storeResp_storesBuffer (by simpa using hlen)

end

/-- Settles O20: each operation is its bracket, and the instruction leaves the state that reaches. -/
theorem linkOperationsAreOneBracket : Obligations.LinkOperationsAreOneBracket := by
  refine fun s bytes as rest hs hh => ⟨?_, ?_, fun hlen => ?_, fun hlen => ?_⟩
  · obtain ⟨rx, hrx, hwake⟩ := wakeStep_hands hs hh
    refine ⟨rx, hrx, ?_⟩
    rw [exec, execWakeStep, hwake]
    rfl
  · obtain ⟨rx, hrx, hsend⟩ := sendFrame_hands hs hh
    refine ⟨rx, hrx, ?_⟩
    rw [exec, execSendframe, hsend]
    rfl
  · rw [exec, execReadack, readAck_hands hs hh hlen]
    rfl
  · rw [exec, execReadresp, readResp_hands hs hh hlen]
    rfl

/-! ### A bracket that faults, and WAKE (R198) -/

/-- A fault at any of a bracket's three primitives is a BusFault; only the bytes received before it are stored (R227). -/
theorem bracket_fault {s : State} {x y z : Answer} {rest : List Answer} (tx : List Byte)
    {store : List Byte → State → State} (hst : StoresBuffer store) (hs : s.link.script = x :: y :: z :: rest)
    (hf : x.fault = true ∨ y.fault = true ∨ z.fault = true) :
    ∃ u l, bracket tx store s = .err .busFault (u.setLink l) ∧ (u = s ∨ ∃ rx, u = store rx s) := by
  cases hx : x.fault with
  | true => exact ⟨s, _, by rw [bracket, select_err true hs hx, bind_err], .inl rfl⟩
  | false =>
    rw [bracket, select_ok true hs hx, bind_ok]
    cases hy : y.fault with
    | true =>
      rw [exchange_err (a := y) (as := z :: rest) tx (by simp [hs]) hy, bind_err, setLink_setLink]
      exact ⟨s, _, rfl, .inl rfl⟩
    | false =>
      have hz : z.fault = true := by simpa [hx, hy] using hf
      rw [exchange_ok (a := y) (as := z :: rest) tx (by simp [hs]) hy, bind_ok, setLink_setLink, hst,
        select_err (a := z) (as := rest) false (by simp [hs]) hz, setLink_setLink]
      exact ⟨_, _, rfl, .inr ⟨_, rfl⟩⟩

/-- WAKE_STEP with a fault: AWAKE is not set (R196). -/
theorem wakeStep_fault {s : State} {x y z : Answer} {rest : List Answer} (hs : s.link.script = x :: y :: z :: rest)
    (hf : x.fault = true ∨ y.fault = true ∨ z.fault = true) :
    ∃ l, wakeStep s = .err .busFault (s.setLink l) := by
  obtain ⟨u, l, hb, hu⟩ := bracket_fault s.cfg.wakeSeq discard_storesBuffer hs hf
  obtain rfl : u = s := by rcases hu with rfl | ⟨_, rfl⟩ <;> rfl
  exact ⟨l, by rw [wakeStep, hb, bind_err]⟩

/-- WAKE in Idle whose wake-up completes (R198). -/
theorem exec_wake_ok {s t : State} (hp : s.phase = .idle) (h : wakeStep s = .ok () t) :
    exec .wake s = .next (t.setResult []) := by
  rw [exec, execWake, if_neg (by simpa [busy_iff] using hp), h]

/-- WAKE in Idle whose wake-up fails: a pure failure that clears AWAKE, PHASE stays (R198). -/
theorem exec_wake_err {s t : State} {e : Err} (hp : s.phase = .idle) (h : wakeStep s = .err e t) :
    exec .wake s = .next ((failPure e t).setAwake false) := by
  rw [exec, execWake, if_neg (by simpa [busy_iff] using hp), h]

/-- Settles O22: in Idle the wake-up decides, elsewhere the operation is refused. -/
theorem wakeHostOperation : Obligations.WakeHostOperation := by
  refine fun s => ⟨fun hp bytes as rest hs hh => ?_, fun hp x y z rest hs hf => ?_, fun hp => ?_⟩
  · obtain ⟨rx, hrx, hwake⟩ := wakeStep_hands hs hh
    exact ⟨rx, hrx, exec_wake_ok hp hwake⟩
  · obtain ⟨l, hwake⟩ := wakeStep_fault hs hf
    exact ⟨_, exec_wake_err hp hwake, rfl⟩
  · exact exec_refused_of_busy hp (.inr (.inl rfl))

end Sys2Proof.Machine
end

section
/-! PROOFS. The phase transitions (R218 to R226): one attempt of each wait as an engine computation that the step settles,
and what it does with the environment's answers given. -/

namespace Sys2Proof.Machine

/-! ### One attempt of each wait -/

/-- What follows the reading of six bytes in the ACK wait (R222). -/
def judgeAck (s : State) : Run Unit :=
  match ackMatch s.ackbuf with
  | .ack => .ok () (enterResponseWait s)
  | .nak => .err .nakReceived s
  | .neither => failedAttempt s

/-- One attempt of the ACK wait (R220 to R222). -/
def ackTurn (s : State) : Run Unit :=
  if s.polllim ≤ s.pollcnt then .err .ackTimeout s
  else
    (ready s).bind fun level u =>
      if level then (readAck u).bind fun _ v => judgeAck v else failedAttempt u

/-- What follows the reading of a response (R225). -/
def judgeResponse (s : State) : Run Unit :=
  match decodeFrame s.rxbuf with
  | .ok (tfi, payload) => acceptResponse tfi payload s
  | .err e => .err e s

/-- One attempt of the response wait (R223 to R225). -/
def responseTurn (s : State) : Run Unit :=
  if s.polllim ≤ s.pollcnt then .err .responseTimeout s
  else
    (ready s).bind fun level u =>
      if level then (readResp u).bind fun _ v => judgeResponse v else failedAttempt u

/-- PHASE and the polling registers agree. -/
structure SameWait (s u : State) : Prop where
  phase : u.phase = s.phase
  polllim : u.polllim = s.polllim
  pollcnt : u.pollcnt = s.pollcnt

theorem SameWait.trans {s u v : State} (h : SameWait s u) (g : SameWait u v) : SameWait s v :=
  ⟨g.phase.trans h.phase, g.polllim.trans h.polllim, g.pollcnt.trans h.pollcnt⟩

theorem Attempted.sameWait {s u : State} (h : Attempted s 0 u) : SameWait s u := by
  cases h
  exact ⟨rfl, rfl, BitVec.add_zero _⟩

/-- Until what was read is looked at, an attempt changes neither PHASE nor a polling register. -/
theorem sameWait_of_ready {s u : State} {b : Bool} (h : ready s = .ok b u) : SameWait s u := by
  rcases ready_cases s with ⟨_, l, hr, -⟩ | ⟨l, hr, -⟩
  · rw [hr] at h
    cases h
    exact ⟨rfl, rfl, rfl⟩
  · rw [hr] at h
    cases h

theorem sameWait_of_readAck {s u : State} (h : readAck s = .ok () u) : SameWait s u := by
  have hu := readAck_attempted s
  rw [h] at hu
  exact hu.sameWait

theorem sameWait_of_readResp {s u : State} (h : readResp s = .ok () u) : SameWait s u := by
  have hu := readResp_attempted s
  rw [h] at hu
  exact hu.sameWait

/-- A step of the ACK wait settles one attempt. -/
theorem step_awaitingAck {s : State} (hp : s.phase = .awaitingAck) : step s = .next (settle (ackTurn s)) := by
  rw [step, advance, hp]
  show ackAttempt s = _
  rw [ackAttempt, ackTurn]
  split
  case isTrue => rfl
  case isFalse =>
    cases hr : ready s with
    | err e u => rfl
    | ok level u =>
      cases level with
      | false => rfl
      | true =>
        simp only [bind_ok, if_true]
        cases ha : readAck u with
        | err e v => rfl
        | ok _ v =>
          have hv : v.phase = .awaitingAck := ((sameWait_of_ready hr).trans (sameWait_of_readAck ha)).phase.trans hp
          simp only [bind_ok, judgeAck]
          cases ackMatch v.ackbuf with
          | ack => exact congrArg Host.Outcome.next (receiveConstant_awaitingAck hv)
          | nak => exact congrArg Host.Outcome.next (receiveConstant_awaitingAck hv)
          | neither => rfl

/-- A step of the response wait settles one attempt. -/
theorem step_awaitingResponse {s : State} (hp : s.phase = .awaitingResponse) :
    step s = .next (settle (responseTurn s)) := by
  rw [step, advance, hp]
  show responseAttempt s = _
  rw [responseAttempt, responseTurn]
  split
  case isTrue => rfl
  case isFalse =>
    cases hr : ready s with
    | err e u => rfl
    | ok level u =>
      cases level with
      | false => rfl
      | true =>
        simp only [bind_ok, if_true]
        cases ha : readResp u with
        | err e v => rfl
        | ok _ v =>
          have hv : v.phase = .awaitingResponse := ((sameWait_of_ready hr).trans (sameWait_of_readResp ha)).phase.trans hp
          simp only [bind_ok, judgeResponse]
          cases decodeFrame v.rxbuf with
          | err e => rfl
          | ok x => exact exec_receivedFrame hv x.1 x.2

theorem step_wokenUp {s : State} (hp : s.phase = .wokenUp) : step s = .next (settle (sendCommand s)) := by
  rw [step, advance, hp]

theorem step_frameSent {s : State} (hp : s.phase = .frameSent) : step s = .next (enterAckWait s) := by
  rw [step, advance, hp]

/-- Done and Failed return to Idle (R226). -/
theorem step_ended {s : State} (hp : s.phase = .done ∨ s.phase = .failed) : step s = .next (returnToIdle s) := by
  rcases hp with hp | hp <;> rw [step, advance, hp]

/-- Settles O36: the four phases that do not wait. -/
theorem plainTransitions : Obligations.PlainTransitions := by
  refine fun s => ⟨fun hp b as rest hs hh => ?_, step_frameSent, step_ended⟩
  obtain ⟨rx, hrx, hsend⟩ := sendCommand_hands hs hh
  exact ⟨rx, hrx, by rw [step_wokenUp hp, hsend, settle_ok]; rfl⟩

/-! ### The bound (R220, R223) and the attempt that is not ready (R221, R224) -/

theorem ackTurn_of_bound {s : State} (h : s.polllim.toNat ≤ s.pollcnt.toNat) : ackTurn s = .err .ackTimeout s :=
  if_pos (BitVec.le_def.2 h)

theorem responseTurn_of_bound {s : State} (h : s.polllim.toNat ≤ s.pollcnt.toNat) :
    responseTurn s = .err .responseTimeout s :=
  if_pos (BitVec.le_def.2 h)

/-- Settles O37: the bound is tested before anything is sampled. -/
theorem boundReachedTimesOut : Obligations.BoundReachedTimesOut := by
  refine fun s hb => ⟨fun hp => ?_, fun hp => ?_⟩
  · rw [step_awaitingAck hp, ackTurn_of_bound hb]
    rfl
  · rw [step_awaitingResponse hp, responseTurn_of_bound hb]
    rfl

section
variable {s u : State} (hlt : s.pollcnt.toNat < s.polllim.toNat)
include hlt

theorem ackTurn_of_notReady (h : ready s = .ok false u) : ackTurn s = failedAttempt u := by
  rw [ackTurn, if_neg (not_bound_reached hlt), h]
  rfl

theorem responseTurn_of_notReady (h : ready s = .ok false u) : responseTurn s = failedAttempt u := by
  rw [responseTurn, if_neg (not_bound_reached hlt), h]
  rfl

theorem ackTurn_of_read {t : State} (h : ready s = .ok true t) (hr : readAck t = .ok () u) :
    ackTurn s = judgeAck u := by
  rw [ackTurn, if_neg (not_bound_reached hlt), h]
  simp only [bind_ok, if_true, hr]

theorem responseTurn_of_read {t : State} (h : ready s = .ok true t) (hr : readResp t = .ok () u) :
    responseTurn s = judgeResponse u := by
  rw [responseTurn, if_neg (not_bound_reached hlt), h]
  simp only [bind_ok, if_true, hr]

end

/-- An attempt that is not ready and does not fault (R221, R224). -/
theorem notReady_waits {s : State} {q rest : List Answer} (hs : s.link.script = q ++ rest) (hq : Quiet 1 q) :
    ∃ u, ready s = .ok false u ∧ failedAttempt u = .ok () (s.waited 1) := by
  obtain ⟨hlen, hall⟩ := hq
  obtain ⟨r, z, rfl⟩ := List.length_eq_two.1 hlen
  obtain ⟨hr, hl⟩ := hall r (by simp)
  obtain ⟨hz, -⟩ := hall z (by simp)
  refine ⟨_, by rw [ready_ok hs hr, hl], ?_⟩
  rw [failedAttempt_ok (z := z) (rest := rest) (by simp [hs]) hz]
  simp [State.setLink, State.waited, Link.afterWait, waitEvents, Link.record, hs]

/-- Settles O38: in either wait the failed attempt is the whole step. -/
theorem notReadySleepsAndCounts : Obligations.NotReadySleepsAndCounts := by
  intro s q rest hp hlt hs hq
  obtain ⟨u, hr, hf⟩ := notReady_waits hs hq
  rcases hp with hp | hp
  · rw [step_awaitingAck hp, ackTurn_of_notReady hlt hr, hf]
    rfl
  · rw [step_awaitingResponse hp, responseTurn_of_notReady hlt hr, hf]
    rfl

/-! ### The ready attempt (R222, R225) -/

/-- A ready signal sampled true (R63). -/
theorem ready_raised {s : State} {r : Answer} {rest : List Answer} (hs : s.link.script = r :: rest) (hr : Raised r) :
    ready s = .ok true (s.setLink s.link.afterRaised) := by
  obtain ⟨hf, hl⟩ := hr
  rw [ready_ok hs hf, hl]
  simp [Link.record, Link.afterRaised]

section
variable {s : State} {r : Answer} {a rest : List Answer} {b : List Byte}
  (hlt : s.pollcnt.toNat < s.polllim.toNat) (hs : s.link.script = r :: (a ++ rest)) (hr : Raised r) (hh : Hands b a)
include hlt hs hr hh

/-- The ACK wait's ready attempt looks at the six bytes read (R222). -/
theorem ackTurn_hands (hb : b.length = 6) :
    ackTurn s = judgeAck (s.acked b 0 (s.link.afterRaised.afterBracket s.ackProbe b)) := by
  have hread := readAck_hands (s := s.setLink s.link.afterRaised) (as := a) (rest := rest) (by simp [hs]) hh hb
  rw [ackTurn_of_read hlt (ready_raised hs hr) hread]
  simp [storeAck, State.setLink, State.acked]

/-- The response wait's ready attempt looks at the RX_COUNT bytes read (R225). -/
theorem responseTurn_hands (hb : b.length = s.cfg.rxCount.toNat) :
    responseTurn s = judgeResponse (s.responded b 0 (s.link.afterRaised.afterBracket s.respProbe b)) := by
  have hread := readResp_hands (s := s.setLink s.link.afterRaised) (as := a) (rest := rest) (by simp [hs]) hh hb
  rw [responseTurn_of_read hlt (ready_raised hs hr) hread]
  simp [storeResp, State.setLink, State.responded]

end

theorem acked_zero (b : List Byte) (l : Link) (s : State) : s.acked b 0 l = { s with ackbuf := b, link := l } := by
  simp [State.acked]

theorem responded_zero (b : List Byte) (l : Link) (s : State) : s.responded b 0 l = { s with rxbuf := b, link := l } := by
  simp [State.responded]

/-- Settles O39: the attempt by the class of its six bytes; Neither costs a failed attempt. -/
theorem ackWaitReady : Obligations.AckWaitReady := by
  rintro s r a rest b l hp hlt hs hr hh hb rfl
  rw [step_awaitingAck hp, ackTurn_hands hlt hs hr hh hb, acked_zero]
  refine ⟨?_, ?_, ?_⟩
  · rintro rfl
    rfl
  · rintro rfl
    rfl
  · rintro hack hnak z rest' rfl hz
    have hscript : (s.link.afterRaised.afterBracket s.ackProbe b).script = z :: rest' :=
      afterBracket_rest (by simp [hs]) hh
    rw [judgeAck, ackMatch_eq_neither hack hnak]
    simp only
    rw [failedAttempt_ok (rest := rest') hscript hz, settle_ok]

/-- Settles O40: the attempt by the first of DECODE and CORRELATE that fails, or by neither. -/
theorem responseWaitReady : Obligations.ResponseWaitReady := by
  rintro s r a rest b l hp hlt hs hr hh hb rfl
  rw [step_awaitingResponse hp, responseTurn_hands hlt hs hr hh hb, responded_zero, judgeResponse]
  refine ⟨fun e hd => ?_, fun tfi p e hd hc => ?_, fun tfi p d hd hc => ?_⟩
  · rw [hd]
    rcases decodeFrame_err_kind hd with rfl | rfl | rfl <;> rfl
  · simp only [hd, acceptResponse, hc]
    rcases correlate_err_kind hc with rfl | rfl <;> rfl
  · simp only [hd, acceptResponse, hc]
    rfl

end Sys2Proof.Machine
end

section
/-! PROOFS. REQUEST as one procedure against the phase transitions (R214, R215): a step settles one turn of the phase, and
the procedure is that turn followed by what the later steps do. -/

namespace Sys2Proof.Machine

/-! ### Steps through busy states -/

/-- Steps lead from s to t, and every state before t is busy. -/
inductive BusyRun : State → State → Prop
  | refl (t : State) : BusyRun t t
  | step {s u t : State} (hp : s.phase ≠ .idle) (hs : step s = .next u) (hr : BusyRun u t) : BusyRun s t

theorem run_succ_of_step {s u : State} (h : step s = .next u) (k : Nat) :
    Sys2Proof.core.run (k + 1) s = Sys2Proof.core.run k u := by
  have h' : Sys2Proof.core.step s = .next u := h
  simp only [Host.Core.run, h']

/-- A run through busy states counted by steps. -/
theorem BusyRun.exists_run {s t : State} (h : BusyRun s t) :
    ∃ n : Nat, Sys2Proof.core.run n s = .next t ∧
      ∀ k : Nat, k < n → ∃ u : State, Sys2Proof.core.run k s = .next u ∧ u.phase ≠ .idle := by
  induction h with
  | refl t => exact ⟨0, rfl, fun _ hk => absurd hk (Nat.not_lt_zero _)⟩
  | @step s u t hp hs _ ih =>
    obtain ⟨n, hrun, hbusy⟩ := ih
    refine ⟨n + 1, (run_succ_of_step hs n).trans hrun, fun k hk => ?_⟩
    cases k with
    | zero => exact ⟨s, rfl, hp⟩
    | succ k =>
      rw [run_succ_of_step hs k]
      exact hbusy k (Nat.lt_of_succ_lt_succ hk)

/-! ### What is left of the procedure -/

/-- From s, steps end where the computation r, the rest of the procedure, ends with the return to Idle. -/
def StepsRealize (r : Run Unit) (s : State) : Prop := BusyRun s (returnToIdle (settle r))

/-- The computation r is what the turn does first, and then what steps do from the state the turn leaves. -/
def BeginsWith (r turn : Run Unit) : Prop :=
  match turn with
  | .ok _ u => StepsRealize r u
  | .err e u => r = .err e u

/-- Done and Failed are one step before Idle (R226). -/
theorem busyRun_ended {s : State} (hp : s.phase = .done ∨ s.phase = .failed) : BusyRun s (returnToIdle s) :=
  .step (by rcases hp with hp | hp <;> rw [hp] <;> decide) (step_ended hp) (.refl _)

/-- A failure ends in Idle by way of Failed (R292, R226). -/
theorem stepsRealize_err (e : Err) (u : State) : StepsRealize (.err e u) (failEntry e u) := busyRun_ended (.inr rfl)

/-- The steps from s realize r where the step settles a turn with which r begins. -/
theorem StepsRealize.of_turn {s : State} {r turn : Run Unit} (hp : s.phase ≠ .idle)
    (hs : step s = .next (settle turn)) (h : BeginsWith r turn) : StepsRealize r s := by
  refine .step hp hs ?_
  cases turn with
  | ok _ u => exact h
  | err e u =>
    obtain rfl : r = .err e u := h
    exact stepsRealize_err e u

/-- A common first part of procedure and turn. -/
theorem BeginsWith.bind {α : Type} {x : Run α} {f g : α → State → Run Unit}
    (h : ∀ a u, x = .ok a u → BeginsWith (f a u) (g a u)) : BeginsWith (x.bind f) (x.bind g) := by
  cases x with
  | ok a u => exact h a u rfl
  | err e u => rfl

/-- A turn whose failure is the procedure's. -/
theorem BeginsWith.bind_right {x : Run Unit} {f : Unit → State → Run Unit}
    (h : ∀ u, x = .ok () u → StepsRealize (f () u) u) : BeginsWith (x.bind f) x := by
  cases x with
  | ok _ u => exact h u rfl
  | err e u => rfl

/-! ### Attempts left -/

theorem poll_of_attemptsLeft {s : State} {m : Nat} (h : s.attemptsLeft = m) : poll s = pollLoop m s :=
  congrArg (pollLoop · s) h

/-- POLL's loop and what follows it, by the first sample (R193). -/
theorem pollLoop_succ_bind (m : Nat) (s : State) (f : PollResult → State → Run Unit) :
    (pollLoop (m + 1) s).bind f = (ready s).bind fun level u =>
      if level then f .isReady u else (failedAttempt u).bind fun _ v => (pollLoop m v).bind f := by
  rw [pollLoop, bind_assoc]
  congr 1
  funext level u
  cases level with
  | true => rfl
  | false => exact bind_assoc _ _ _

/-- A failed attempt stays in its phase and uses up one attempt (R193). -/
theorem failedAttempt_ok_left {s u v : State} {m : Nat} (hu : SameWait s u) (hm : s.attemptsLeft = m + 1)
    (h : failedAttempt u = .ok () v) : v.phase = s.phase ∧ v.attemptsLeft = m := by
  obtain ⟨hphase, hlim, hcnt⟩ := hu
  have hu : u.polllim.toNat - u.pollcnt.toNat = m + 1 := by rw [hlim, hcnt]; exact hm
  rcases failedAttempt_cases u with ⟨l, hf, -⟩ | ⟨l, hf, -⟩
  · rw [hf] at h
    cases h
    refine ⟨hphase, ?_⟩
    have hc := left_counted (s := u) (k := 1) u.ackbuf l (by omega) (by omega)
    show u.polllim.toNat - (u.acked u.ackbuf 1 l).pollcnt.toNat = m
    omega
  · rw [hf] at h
    cases h

theorem bound_of_attemptsLeft_zero {s : State} (h : s.attemptsLeft = 0) : s.polllim.toNat ≤ s.pollcnt.toNat :=
  Nat.le_of_sub_eq_zero h

theorem below_of_attemptsLeft_succ {s : State} {m : Nat} (h : s.attemptsLeft = m + 1) : ¬ s.polllim ≤ s.pollcnt :=
  not_bound_reached (Nat.lt_of_sub_eq_succ h)

/-! ### The two waits -/

/-- Done is the end of a request that succeeds (R225, R226). -/
theorem phase_of_judgeResponse {s u : State} (h : judgeResponse s = .ok () u) : u.phase = .done := by
  rw [judgeResponse] at h
  split at h
  next tfi p _ =>
    rw [acceptResponse] at h
    split at h <;> cases h
    rfl
  next => cases h

/-- S6 and S7 after POLL has returned. -/
def responsePolled (r : PollResult) (s : State) : Run Unit :=
  match r with
  | .timedOut => .err .responseTimeout s
  | .isReady => (readResp s).bind fun _ u => judgeResponse u

theorem responseWait_eq (s : State) : responseWait s = (poll s).bind responsePolled := rfl

/-- The response wait is realized by its steps (R223 to R225): an attempt at a time. -/
theorem stepsRealize_responseWait {s : State} (hp : s.phase = .awaitingResponse) :
    StepsRealize (responseWait s) s := by
  obtain ⟨m, hm⟩ : ∃ m, s.attemptsLeft = m := ⟨_, rfl⟩
  induction m generalizing s with
  | zero =>
    refine .of_turn (by rw [hp]; decide) (step_awaitingResponse hp) ?_
    rw [responseTurn_of_bound (bound_of_attemptsLeft_zero hm), responseWait_eq, poll_of_attemptsLeft hm]
    rfl
  | succ m ih =>
    have hproc : responseWait s = (ready s).bind fun level u =>
        if level then (readResp u).bind fun _ v => judgeResponse v
        else (failedAttempt u).bind fun _ v => (pollLoop m v).bind responsePolled := by
      rw [responseWait_eq, poll_of_attemptsLeft hm, pollLoop_succ_bind]
      rfl
    refine .of_turn (by rw [hp]; decide) (step_awaitingResponse hp) ?_
    rw [responseTurn, if_neg (below_of_attemptsLeft_succ hm), hproc]
    refine .bind fun level u hu => ?_
    cases level with
    | false =>
      refine BeginsWith.bind_right fun v hv => ?_
      obtain ⟨hphase, hleft⟩ := failedAttempt_ok_left (sameWait_of_ready hu) hm hv
      rw [← poll_of_attemptsLeft hleft, ← responseWait_eq]
      exact ih (hphase.trans hp) hleft
    | true =>
      refine BeginsWith.bind fun _ v _ => ?_
      cases hj : judgeResponse v with
      | err e w => rfl
      | ok _ w => exact busyRun_ended (.inl (phase_of_judgeResponse hj))

/-- S4 to S7 of the procedure. -/
def ackPhase (n : Nat) (s : State) : Run Unit := (ackWait n s).bind fun _ u => responseWait (enterResponseWait u)

/-- What S4 does with the six bytes read (R222). -/
def ackPhaseRead (n : Nat) (s : State) : Run Unit :=
  match ackMatch s.ackbuf with
  | .ack => responseWait (enterResponseWait s)
  | .nak => .err .nakReceived s
  | .neither => (failedAttempt s).bind fun _ u => ackPhase n u

/-- S4 after POLL has returned. -/
def ackPhasePolled (n : Nat) (r : PollResult) (s : State) : Run Unit :=
  match r with
  | .timedOut => .err .ackTimeout s
  | .isReady => (readAck s).bind fun _ u => ackPhaseRead n u

theorem ackPhase_succ (n : Nat) (s : State) : ackPhase (n + 1) s = (poll s).bind (ackPhasePolled n) := by
  rw [ackPhase, ackWait, bind_assoc]
  congr 1
  funext r u
  cases r with
  | timedOut => rfl
  | isReady =>
    simp only [ackPhasePolled, bind_assoc, ackPhaseRead]
    congr 1
    funext _ v
    cases ackMatch v.ackbuf with
    | ack | nak => rfl
    | neither => exact bind_assoc _ _ _

/-- The ACK wait and what follows it are realized by steps (R220 to R222), with more polls than attempts left. -/
theorem stepsRealize_ackPhase {s : State} {n : Nat} (hp : s.phase = .awaitingAck) (hn : s.attemptsLeft ≤ n) :
    StepsRealize (ackPhase (n + 1) s) s := by
  obtain ⟨m, hm⟩ : ∃ m, s.attemptsLeft = m := ⟨_, rfl⟩
  rw [hm] at hn
  induction m generalizing s n with
  | zero =>
    refine .of_turn (by rw [hp]; decide) (step_awaitingAck hp) ?_
    rw [ackTurn_of_bound (bound_of_attemptsLeft_zero hm), ackPhase_succ, poll_of_attemptsLeft hm]
    rfl
  | succ m ih =>
    obtain ⟨n, rfl⟩ : ∃ j, n = j + 1 := ⟨n - 1, by omega⟩
    have hmn : m ≤ n := Nat.le_of_succ_le_succ hn
    have hproc : ackPhase (n + 1 + 1) s = (ready s).bind fun level u =>
        if level then (readAck u).bind fun _ v => ackPhaseRead (n + 1) v
        else (failedAttempt u).bind fun _ v => (pollLoop m v).bind (ackPhasePolled (n + 1)) := by
      rw [ackPhase_succ, poll_of_attemptsLeft hm, pollLoop_succ_bind]
      rfl
    refine .of_turn (by rw [hp]; decide) (step_awaitingAck hp) ?_
    rw [ackTurn, if_neg (below_of_attemptsLeft_succ hm), hproc]
    refine .bind fun level u hu => ?_
    have hwait := sameWait_of_ready hu
    cases level with
    | false =>
      refine BeginsWith.bind_right fun v hv => ?_
      obtain ⟨hphase, hleft⟩ := failedAttempt_ok_left hwait hm hv
      rw [← poll_of_attemptsLeft hleft, ← ackPhase_succ]
      exact ih (hphase.trans hp) (Nat.le_succ_of_le hmn) hleft
    | true =>
      refine BeginsWith.bind fun _ v hv => ?_
      rw [ackPhaseRead, judgeAck]
      cases ackMatch v.ackbuf with
      | ack => exact stepsRealize_responseWait rfl
      | nak => rfl
      | neither =>
        refine BeginsWith.bind_right fun w hw => ?_
        obtain ⟨hphase, hleft⟩ := failedAttempt_ok_left (hwait.trans (sameWait_of_readAck hv)) hm hw
        exact ih (hphase.trans hp) hmn hleft

/-! ### The whole procedure -/

/-- S3 to S7 are realized by steps from FrameSent (R219). -/
theorem stepsRealize_afterSend {s : State} (hp : s.phase = .frameSent) : StepsRealize (afterSend s) s := by
  refine .of_turn (turn := .ok () (enterAckWait s)) (by rw [hp]; decide) (step_frameSent hp) ?_
  exact stepsRealize_ackPhase rfl (Nat.sub_le _ _)

/-- S2 to S7 are realized by steps from WokenUp (R218). -/
theorem stepsRealize_sendCommand {s : State} (hp : s.phase = .wokenUp) :
    StepsRealize ((sendCommand s).bind fun _ u => afterSend u) s := by
  refine .of_turn (by rw [hp]; decide) (step_wokenUp hp) (.bind_right fun u hu => ?_)
  obtain ⟨_, v, -, hv⟩ := bind_eq_ok.1 hu
  cases hv
  exact stepsRealize_afterSend rfl

/-- Settles O35: from what S0 and S1 leave, each step settles one turn of the procedure. -/
theorem procedureEqualsTransitions : Obligations.ProcedureEqualsTransitions := by
  intro s hp
  have hrun : BusyRun (settle (startRequest s)) (runRequest s) := by
    rw [runRequest, requestBody_eq]
    cases hs : startRequest s with
    | err e u => exact stepsRealize_err e u
    | ok _ u =>
      have hu : u.phase = .wokenUp := by
        obtain ⟨_, v, -, hv⟩ := bind_eq_ok.1 hs
        obtain ⟨_, w, -, hw⟩ := bind_eq_ok.1 hv
        cases hw
        rfl
      exact stepsRealize_sendCommand hu
  obtain ⟨n, hn, hbusy⟩ := hrun.exists_run
  exact ⟨n, (exec_request hp).trans hn.symm, hbusy⟩

end Sys2Proof.Machine
end

section
/-! PROOFS. A link operation that faults (R227, R331): where it stops, what it has issued, and what it has stored. -/

namespace Sys2Proof.Machine

/-! ### The three fault points of a bracket -/

section
variable {s : State} {x y z : Answer} {rest : List Answer} {store : List Byte → State → State} (tx : List Byte)
  (hs : s.link.script = x :: y :: z :: rest)
include hs

/-- Select(true) faults: nothing else is issued. -/
theorem bracket_raiseFault (hx : x.fault = true) :
    ∃ l, bracket tx store s = .err .busFault (s.setLink l) ∧ l.trace = s.link.trace ++ [.select true false] :=
  ⟨_, by rw [bracket, select_err true hs hx, bind_err], rfl⟩

variable (hx : x.fault = false)
include hx

/-- The Exchange faults: SEL stays asserted (R331). -/
theorem bracket_exchangeFault (hy : y.fault = true) :
    ∃ l, bracket tx store s = .err .busFault (s.setLink l) ∧
      l.trace = s.link.trace ++ [.select true true, .exchange tx none] ∧ l.sel = true := by
  rw [bracket, select_ok true hs hx, bind_ok, exchange_err (a := y) (as := z :: rest) tx (by simp [hs]) hy, bind_err]
  exact ⟨_, rfl, List.append_assoc _ _ _, rfl⟩

/-- Select(false) faults: the bytes received before it are stored. -/
theorem bracket_lowerFault (hst : StoresBuffer store) (hy : y.fault = false) (hz : z.fault = true) :
    ∃ rx l, rx.length = tx.length ∧ bracket tx store s = .err .busFault ((store rx s).setLink l) ∧
      l.trace = s.link.trace ++ [.select true true, .exchange tx (some rx), .select false false] := by
  rw [bracket, select_ok true hs hx, bind_ok, exchange_ok (a := y) (as := z :: rest) tx (by simp [hs]) hy, bind_ok,
    setLink_setLink, hst, select_err (a := z) (as := rest) false (by simp [hs]) hz, setLink_setLink]
  exact ⟨_, _, padReceived_length _ _ _, rfl, by simp⟩

end

/-! ### The four link operations -/

/-- The instruction i is in s a bracket that sends tx and stores what it receives in its own buffer, if it has one (R196,
R211 to R213). -/
structure IsLinkOperation (i : Instr) (tx : List Byte) (s : State) (store : List Byte → State → State) : Prop where
  storesBuffer : StoresBuffer store
  fails : ∀ u, bracket tx store s = .err .busFault u → exec i s = .next (failEntry .busFault u)
  buffers : ∀ rx, store rx s = { s with ackbuf := (store rx s).ackbuf, rxbuf := (store rx s).rxbuf }
  ackbuf_of_ne : ∀ rx, i ≠ .readack → (store rx s).ackbuf = s.ackbuf
  rxbuf_of_ne : ∀ rx, i ≠ .readresp → (store rx s).rxbuf = s.rxbuf
  ackbuf : ∀ rx, i = .readack → (store rx s).ackbuf = rx
  rxbuf : ∀ rx, i = .readresp → (store rx s).rxbuf = rx

theorem isLinkOperation {i : Instr} {tx : List Byte} {s : State}
    (h : (i = .wakeStep ∧ tx = s.cfg.wakeSeq) ∨ (i = .sendframe ∧ tx = s.txbuf) ∨
      (i = .readack ∧ tx = List.replicate 6 s.cfg.txFill) ∨
      (i = .readresp ∧ tx = List.replicate s.cfg.rxCount.toNat s.cfg.txFill)) :
    ∃ store, IsLinkOperation i tx s store := by
  rcases h with ⟨rfl, rfl⟩ | ⟨rfl, rfl⟩ | ⟨rfl, rfl⟩ | ⟨rfl, rfl⟩
  · exact ⟨discard, discard_storesBuffer, fun u hu => by rw [exec, execWakeStep, wakeStep, hu]; rfl, fun _ => rfl,
      fun _ _ => rfl, fun _ _ => rfl, nofun, nofun⟩
  · exact ⟨discard, discard_storesBuffer, fun u hu => by rw [exec, execSendframe, sendFrame, hu]; rfl, fun _ => rfl,
      fun _ _ => rfl, fun _ _ => rfl, nofun, nofun⟩
  · exact ⟨storeAck, storeAck_storesBuffer, fun u hu => by rw [exec, execReadack, readAck, hu]; rfl, fun _ => rfl,
      fun _ h => absurd rfl h, fun _ _ => rfl, fun _ _ => rfl, nofun⟩
  · exact ⟨storeResp, storeResp_storesBuffer, fun u hu => by rw [exec, execReadresp, readResp, hu]; rfl, fun _ => rfl,
      fun _ _ => rfl, fun _ h => absurd rfl h, nofun, fun _ _ => rfl⟩

/-- Settles O21: by the three points at which a bracket can fault. -/
theorem linkFaultStopsAtOnce : Obligations.LinkFaultStopsAtOnce := by
  intro i tx s x y z rest hi hs hf
  obtain ⟨store, op⟩ := isLinkOperation hi
  cases hx : x.fault with
  | true =>
    obtain ⟨l, hb, ht⟩ := bracket_raiseFault (store := store) tx hs hx
    exact ⟨_, op.fails _ hb, rfl, fun _ => rfl, fun _ => rfl, fun _ => ⟨rfl, rfl⟩, fun _ => ht, nofun, nofun⟩
  | false =>
    cases hy : y.fault with
    | true =>
      obtain ⟨l, hb, ht⟩ := bracket_exchangeFault (store := store) tx hs hx hy
      exact ⟨_, op.fails _ hb, rfl, fun _ => rfl, fun _ => rfl, fun _ => ⟨rfl, rfl⟩, nofun, fun _ _ => ht, nofun⟩
    | false =>
      have hz : z.fault = true := by simpa [hx, hy] using hf
      obtain ⟨rx, l, hrx, hb, ht⟩ := bracket_lowerFault tx hs hx op.storesBuffer hy hz
      refine ⟨_, op.fails _ hb, ?_, op.ackbuf_of_ne rx, op.rxbuf_of_ne rx, by simp, nofun, nofun,
        fun _ _ => ⟨rx, hrx, ht, op.ackbuf rx, op.rxbuf rx⟩⟩
      rw [op.buffers rx]
      rfl

end Sys2Proof.Machine
end

section
/-! PROOFS. REQUEST with the environment's answers given (R216, R228, R230): the arguments that do not fit, the NAK, and the
success. -/

namespace Sys2Proof.Machine

/-- Settles O23: S0 fails before anything is issued, and PayloadTooLarge keeps AWAKE. -/
theorem requestTooLargeTouchesNothing : Obligations.RequestTooLargeTouchesNothing := by
  intro s hp ha
  have hbody : requestBody s = .err .payloadTooLarge (storeBudgets s) := by
    rw [requestBody, startRequest, loadFrame_tooLarge _ _ ha, bind_err, bind_err]
  rw [exec_request hp, runRequest, hbody]
  simp [returnToIdle, State.setPhase, failEntry, keepsAwake, storeBudgets, hp]

/-! ### Up to the bytes read in the ACK wait -/

/-- The state of a request as its ACK wait begins, but for the link (R214 S0 to S3). -/
def State.inAckWait (s : State) : State :=
  { s with
    tack := (splitBudgets s.tmode s.t1 s.t2).1, tresp := (splitBudgets s.tmode s.t1 s.t2).2, txbuf := s.commandFrame
    awake := true, pollcnt := 0, polllim := limit s.cfg (splitBudgets s.tmode s.t1 s.t2).1, phase := .awaitingAck }

/-- The state of a request as its response wait begins, but for the link (R214 S5). -/
def State.inResponseWait (s : State) : State :=
  { s.inAckWait with
    ackbuf := ackFrame, polllim := limit s.cfg (splitBudgets s.tmode s.t1 s.t2).2, phase := .awaitingResponse }

theorem enterAckWait_sent (s : State) (l : Link) :
    enterAckWait (((s.encoded.setAwake true).setPhase .frameSent).setLink l) = s.inAckWait.setLink l := by
  simp [enterAckWait, State.inAckWait, State.encoded, storeBudgets, State.setLink, State.setPhase, State.setAwake,
    State.setTxbuf]

theorem enterResponseWait_acked (s : State) (n : Nat) (l : Link) :
    enterResponseWait (s.inAckWait.acked ackFrame n l) = s.inResponseWait.setLink l := by
  simp [enterResponseWait, State.inResponseWait, State.inAckWait, State.acked, State.setLink]

section
variable {s : State} {w f q a rest : List Answer} {r : Answer} {fb b : List Byte} {n : Nat}

/-- S0 to S4 where no primitive faults and six bytes are read after n failed attempts. -/
theorem requestBody_ackRead (h : s.args.length ≤ 253) (hs : s.link.script = w ++ (f ++ (q ++ r :: (a ++ rest))))
    (h1 : s.awake = true → w = []) (h2 : s.awake = false → ∃ wb, Hands wb w) (hf : Hands fb f) (hq : Quiet n q)
    (hn : n < s.ackBound) (hr : Raised r) (ha : Hands b a) (hb : b.length = 6) :
    ∃ wrx frx l, l.script = rest ∧ l.sel = false ∧
      l.elapsedMs = s.link.elapsedMs + n * s.cfg.intervalMs.toNat ∧
      l.calls = s.link.calls + (if s.awake then 0 else 3) + 3 + 2 * n + 4 ∧
      l.trace = s.link.trace ++ wakeEvents s wrx ++ bracketEvents s.commandFrame frx ++
        waitEvents s.cfg.intervalMs.toNat n ++ [.ready (some true)] ++ bracketEvents s.ackProbe b ∧
      requestBody s = ackPhaseRead s.ackBound (s.inAckWait.acked b n l) := by
  obtain ⟨wrx, frx, l, hrest, -, helapsed, hcalls, htrace, hbody⟩ := requestBody_sent h hs h1 h2 hf
  obtain ⟨m, hrest', hsel', helapsed', hcalls', htrace', hwait⟩ := ackWait_read (v := s.inAckWait.setLink l)
    s.ackBound hrest hq hn hr ha hb
  refine ⟨wrx, frx, m, hrest', hsel', ?_, ?_, ?_, ?_⟩
  · rw [helapsed']
    exact congrArg (· + _) helapsed
  · rw [hcalls']
    exact congrArg (· + 2 * n + 4) hcalls
  · rw [htrace']
    exact congrArg (· ++ _ ++ _ ++ _) htrace
  · have hphase : requestBody s = ackPhase (s.ackBound + 1) (s.inAckWait.setLink l) := by
      rw [hbody, ← enterAckWait_sent]
      rfl
    have hbuf : (s.inAckWait.acked b n m).ackbuf = b := rfl
    rw [hphase, ackPhase, hwait, ackPhaseRead, hbuf]
    cases ackMatch b with
    | ack | nak => rfl
    | neither => exact bind_assoc _ _ _

end

/-- A NAK fails the request (R222, R286). -/
theorem ackPhaseRead_nak {s : State} (n : Nat) (h : s.ackbuf = nakFrame) :
    ackPhaseRead n s = .err .nakReceived s := by
  rw [ackPhaseRead, ackMatch_eq_nak.2 h]

/-- An ACK opens the response wait (R222). -/
theorem ackPhaseRead_ack {s : State} (n : Nat) (h : s.ackbuf = ackFrame) :
    ackPhaseRead n s = responseWait (enterResponseWait s) := by
  rw [ackPhaseRead, ackMatch_eq_ack.2 h]

/-- Settles O25: six bytes that are a NAK fail the request, and NakReceived keeps AWAKE, which the wake-up has set. -/
theorem requestNak : Obligations.RequestNak := by
  intro s w f a1 q1 rest r1 fb n ta tr hp ha hsplit hs h1 h2 hf hq hn hr hh
  obtain ⟨rfl, rfl⟩ : ta = (splitBudgets s.tmode s.t1 s.t2).1 ∧ tr = (splitBudgets s.tmode s.t1 s.t2).2 :=
    ⟨congrArg Prod.fst hsplit, congrArg Prod.snd hsplit⟩
  obtain ⟨wrx, frx, l, hrest, hsel, helapsed, -, htrace, hbody⟩ := requestBody_ackRead ha hs h1 h2 hf hq hn hr hh rfl
  have hrun : exec .request s = .next (returnToIdle (failEntry .nakReceived (s.inAckWait.acked nakFrame n l))) := by
    rw [exec_request hp, runRequest, hbody, ackPhaseRead_nak (s := s.inAckWait.acked nakFrame n l) _ rfl, settle_err]
  refine ⟨wrx, frx, _, hrun, rfl, rfl, rfl, rfl, ?_, rfl, rfl, hsel, hrest, helapsed, htrace⟩
  exact BitVec.zero_add _

/-- A response that DECODE and CORRELATE accept (R225). -/
theorem judgeResponse_accepts {s : State} {data : List Byte}
    (h : decodeFrame s.rxbuf = .ok (tfiToHost, expectTag s.opcode :: data)) :
    judgeResponse s = .ok () ((s.setResult data).setPhase .done) := by
  rw [judgeResponse, h]
  simp only
  rw [acceptResponse, correlate_expected]

theorem Link.eq_mk (l : Link) {sel : Bool} {ms calls : Nat} {script : List Answer} {trace : List Event}
    (hsel : l.sel = sel) (hms : l.elapsedMs = ms) (hscript : l.script = script) (hcalls : l.calls = calls)
    (htrace : l.trace = trace) : l = ⟨sel, ms, script, calls, trace⟩ := by
  subst hsel hms hscript hcalls htrace
  rfl

/-- Settles O24: an ACK opens the response wait, whose bytes DECODE and CORRELATE accept. -/
theorem requestSuccess : Obligations.RequestSuccess := by
  intro s w f a1 a2 q1 q2 rest r1 r2 fb raw data n m ta tr hp ha hsplit hs h1 h2 hf hq1 hn hr1 hh1 hq2 hm hr2 hh2
    hraw hdec
  obtain ⟨rfl, rfl⟩ : ta = (splitBudgets s.tmode s.t1 s.t2).1 ∧ tr = (splitBudgets s.tmode s.t1 s.t2).2 :=
    ⟨congrArg Prod.fst hsplit, congrArg Prod.snd hsplit⟩
  obtain ⟨wrx, frx, l, hrest, -, helapsed, hcalls, htrace, hbody⟩ :=
    requestBody_ackRead ha hs h1 h2 hf hq1 hn hr1 hh1 rfl
  obtain ⟨k, hrest', hsel', helapsed', hcalls', htrace', hwait⟩ := responseWait_read
    (v := s.inResponseWait.setLink l) hrest hq2 hm hr2 hh2 hraw
  have hjudge : responseWait (s.inResponseWait.setLink l) = judgeResponse (s.inResponseWait.responded raw m k) := hwait
  have hrun : exec .request s =
      .next (returnToIdle (((s.inResponseWait.responded raw m k).setResult data).setPhase .done)) := by
    rw [exec_request hp, runRequest, hbody, ackPhaseRead_ack (s := s.inAckWait.acked ackFrame n l) _ rfl,
      enterResponseWait_acked, hjudge, judgeResponse_accepts (data := data) hdec, settle_ok]
  have hms : k.elapsedMs = s.link.elapsedMs + (n + m) * s.cfg.intervalMs.toNat := by
    rw [helapsed', setLink_link, helapsed, Nat.add_mul, Nat.add_assoc]
    rfl
  have hcnt : k.calls = s.link.calls + (if s.awake then 0 else 3) + 11 + 2 * (n + m) := by
    rw [hcalls', setLink_link, hcalls]
    omega
  have hpolls : s.inResponseWait.pollcnt + BitVec.ofNat 16 m = BitVec.ofNat 16 m := BitVec.zero_add _
  refine ⟨wrx, frx, hrun.trans ?_⟩
  rw [State.responded, hpolls, k.eq_mk hsel' hms hrest' hcnt (htrace'.trans (congrArg (· ++ _ ++ _ ++ _) htrace)), hp]
  rfl

end Sys2Proof.Machine
end

section
/-! PROOFS. What every request does, whatever the environment answers (R227, R229 to R231, R335): each statement is a fact
about the pieces of a request's events, put together along `RequestOutcome`. -/

namespace Sys2Proof.Machine

/-- A request that answers a next state has one of the outcomes. -/
theorem outcome_of_exec_request {s t : State} (h : exec .request s = .next t) :
    ∃ es, s.link.Ext t.link es ∧ RequestOutcome s t es := by
  obtain ⟨-, rfl⟩ := exec_request_next h
  exact (runRequest_cases s).2.2

theorem FailedWith.status {e : Err} {t : State} (h : FailedWith e t) : t.status = .error e := h.1

theorem isBlockError_of_response {e : Err} (h : isFrameError e = true ∨ e = .opcodeMismatch) :
    isBlockError e = true ∧ e ≠ .payloadTooLarge ∧ e ≠ .busFault := by
  rcases h with h | rfl
  · revert h
    cases e <;> decide
  · decide

/-! ### The outcome and AWAKE (R230, R293) -/

/-- The result registers and AWAKE at the end: a success, the arguments that do not fit, or a failure of the block after
the chip was addressed. -/
theorem RequestOutcome.ends {s t : State} {es : List Event} (h : RequestOutcome s t es) :
    (t.status = .ok ∧ t.awake = true) ∨
      (t.status = .error .payloadTooLarge ∧ t.rdata = [] ∧ t.awake = s.awake) ∨
      ∃ e, FailedWith e t ∧ Machine.isBlockError e = true ∧ e ≠ .payloadTooLarge := by
  cases h with
  | tooLarge _ hs hr ha => exact .inr (.inl ⟨hs, hr, ha⟩)
  | wakeFault _ _ _ ht | sendFault _ _ _ ht | ackTimeout _ _ _ _ _ ht | ackFault _ _ _ _ _ _ ht
  | nak _ _ _ _ _ ht | respTimeout _ _ _ _ _ _ ht | respFault _ _ _ _ _ _ _ ht =>
    exact .inr (.inr ⟨_, ht, rfl, by decide⟩)
  | read _ _ _ _ _ _ _ _ _ _ _ _ _ ht =>
    rcases ht with ⟨hs, ha, -⟩ | ⟨e, hf, he⟩
    · exact .inl ⟨hs, ha⟩
    · obtain ⟨hblock, hne, -⟩ := isBlockError_of_response he
      exact .inr (.inr ⟨e, hf, hblock, hne⟩)

theorem errCode_of_isBlockError {e : Err} (h : isBlockError e = true) :
    1 ≤ (errCode e).toNat ∧ (errCode e).toNat ≤ 10 := by
  revert h
  cases e <;> decide

/-- AWAKE after a failure that reached the chip is kept by NakReceived alone (R293). -/
theorem keepsAwake_eq {e : Err} (h : e ≠ .payloadTooLarge) : keepsAwake e = (e == .nakReceived) := by
  revert h
  cases e <;> decide

/-- Settles O28: by the three kinds of end. -/
theorem requestAlwaysEnds : Obligations.RequestAlwaysEnds := by
  intro s hp
  obtain ⟨hidle, -, es, -, ho⟩ := runRequest_cases s
  refine ⟨_, exec_request hp, hidle, ?_⟩
  rcases ho.ends with ⟨hs, ha⟩ | ⟨hs, hr, ha⟩ | ⟨e, ⟨hs, hr, ha⟩, hblock, hne⟩
  · rw [hs]
    exact ⟨by decide, by decide, fun h => absurd rfl h, fun _ => ha, nofun, fun h => absurd rfl h⟩
  · rw [hs]
    exact ⟨by decide, by decide, fun _ => hr, by simp, fun _ => ha, fun _ _ h => absurd rfl h⟩
  · obtain ⟨h1, h10⟩ := errCode_of_isBlockError hblock
    rw [keepsAwake_eq hne] at ha
    rw [hs, ha]
    refine ⟨h1, h10, fun _ => hr, by simp, fun h => absurd (Status.error.inj h) hne, fun _ hnak _ => ?_⟩
    simpa using hnak

/-! ### OK means a matching response (R225) -/

/-- A request that succeeds has read the response (R225). -/
theorem RequestOutcome.ok_response {s t : State} {es : List Event} (h : RequestOutcome s t es) (hok : t.status = .ok) :
    ∃ fs raw, es = fs ++ bracketEvents s.respProbe raw ∧ raw.length = s.cfg.rxCount.toNat ∧ t.rxbuf = raw ∧
      decodeFrame raw = .ok (tfiToHost, expectTag s.opcode :: t.rdata) := by
  have hfail : ∀ e, ¬ FailedWith e t := fun e hf => by
    rw [hf.status] at hok
    cases hok
  cases h with
  | tooLarge _ hs => rw [hs] at hok; cases hok
  | wakeFault _ _ _ ht | sendFault _ _ _ ht | ackTimeout _ _ _ _ _ ht | ackFault _ _ _ _ _ _ ht
  | nak _ _ _ _ _ ht | respTimeout _ _ _ _ _ _ ht | respFault _ _ _ _ _ _ _ ht => exact absurd ht (hfail _)
  | read wrx frx b k m es h hk hm he hs hb hx ht =>
    rcases ht with ⟨-, -, hd⟩ | ⟨e, hf, -⟩
    · refine ⟨wakeEvents s wrx ++ (bracketEvents s.commandFrame frx ++
        ((es ++ .ready (some true) :: bracketEvents s.ackProbe ackFrame) ++
          (waitEvents s.cfg.intervalMs.toNat m ++ [.ready (some true)]))), b, ?_, hb, hx, hd⟩
      simp only [List.append_assoc, List.cons_append, List.nil_append]
    · exact absurd hf (hfail e)

/-- Settles O30: the only success is the one that has read a response. -/
theorem okMeansMatchingResponse : Obligations.OkMeansMatchingResponse := by
  intro s t h hok
  obtain ⟨es, e, ho⟩ := outcome_of_exec_request h
  obtain ⟨fs, raw, rfl, hlen, hx, hd⟩ := ho.ok_response hok
  exact ⟨fs, raw, by rw [e.1, List.append_assoc], hlen, hx, hd⟩

/-! ### Faults (R227, R289) -/

/-- Events without a fault. -/
def NoFault (es : List Event) : Prop := ∀ e ∈ es, isFault e = false

/-- Events of which the last one, and no other, is a fault. -/
def FaultLast (es : List Event) : Prop := ∃ before e, es = before ++ [e] ∧ isFault e = true ∧ NoFault before

theorem NoFault.append {es fs : List Event} (h : NoFault es) (g : NoFault fs) : NoFault (es ++ fs) :=
  fun e he => (List.mem_append.1 he).elim (h e) (g e)

theorem NoFault.faultLast {es fs : List Event} (h : NoFault es) (g : FaultLast fs) : FaultLast (es ++ fs) := by
  obtain ⟨before, e, rfl, he, hb⟩ := g
  exact ⟨es ++ before, e, (List.append_assoc _ _ _).symm, he, h.append hb⟩

theorem noFault_nil : NoFault [] := nofun

theorem NoFault.sample {es : List Event} (b : Bool) (h : NoFault es) : NoFault (.ready (some b) :: es) :=
  List.forall_mem_cons.2 ⟨rfl, h⟩

theorem FaultLast.sample {es : List Event} (b : Bool) (h : FaultLast es) : FaultLast (.ready (some b) :: es) :=
  NoFault.faultLast (noFault_nil.sample b) h

theorem noFault_bracketEvents (tx rx : List Byte) : NoFault (bracketEvents tx rx) := by
  simp [NoFault, bracketEvents, isFault]

theorem noFault_wakeEvents (s : State) (rx : List Byte) : NoFault (wakeEvents s rx) := by
  unfold wakeEvents
  split
  · exact noFault_nil
  · exact noFault_bracketEvents _ _

theorem faultLast_singleton {e : Event} (h : isFault e = true) : FaultLast [e] := ⟨[], e, rfl, h, noFault_nil⟩

section
variable {ms k : Nat} {tx : List Byte} {es : List Event}

theorem Attempts.noFault (h : Attempts ms tx k es) : NoFault es := by
  induction h with
  | zero => exact noFault_nil
  | wait k es _ ih => exact NoFault.append (es := waitEvents ms 1) (waitEvents_noFault ms 1) ih
  | neither rx k es _ _ _ ih =>
    have hsleep : NoFault [.sleep ms true] := by simp [NoFault, isFault]
    exact ((noFault_bracketEvents tx rx).append (hsleep.append ih)).sample true

theorem BracketFault.faultLast (h : BracketFault tx es) : FaultLast es := by
  cases h with
  | raise => exact faultLast_singleton rfl
  | exchange => exact ⟨[.select true true], _, rfl, rfl, by simp [NoFault, isFault]⟩
  | lower rx => exact ⟨[.select true true, .exchange tx (some rx)], _, rfl, rfl, by simp [NoFault, isFault]⟩

theorem PollFault.faultLast (h : PollFault ms es) : FaultLast es := by
  cases h with
  | ready => exact faultLast_singleton rfl
  | sleep => exact (faultLast_singleton rfl).sample false

theorem AttemptFault.faultLast (h : AttemptFault ms tx es) : FaultLast es := by
  cases h with
  | poll _ h => exact h.faultLast
  | bracket _ h => exact h.faultLast.sample true
  | neither rx => exact ((noFault_bracketEvents tx rx).faultLast (faultLast_singleton rfl)).sample true

/-- The events of a response wait that stopped at a fault, after its failed attempts. -/
theorem respFault_faultLast
    (h : PollFault ms es ∨ ∃ gs, es = .ready (some true) :: gs ∧ BracketFault tx gs) : FaultLast es := by
  rcases h with h | ⟨gs, rfl, h⟩
  · exact h.faultLast
  · exact h.faultLast.sample true

end

/-- The events up to the ACK (R222). -/
theorem Attempts.noFault_read {ms k : Nat} {tx rx : List Byte} {es : List Event} (h : Attempts ms tx k es) :
    NoFault (es ++ .ready (some true) :: bracketEvents tx rx) :=
  h.noFault.append ((noFault_bracketEvents tx rx).sample true)

theorem FailedWith.status_ne {e e' : Err} {t : State} (h : FailedWith e t) (hne : e ≠ e') : t.status ≠ .error e' := by
  rw [h.status]
  exact fun hs => hne (Status.error.inj hs)

/-- BusFault is recorded exactly where an event is a fault, and that event is the last (R227). -/
theorem RequestOutcome.faults {s t : State} {es : List Event} (h : RequestOutcome s t es) :
    (t.status = .error .busFault ∧ FaultLast es) ∨ (t.status ≠ .error .busFault ∧ NoFault es) := by
  have hsent : ∀ wrx frx, NoFault (wakeEvents s wrx ++ bracketEvents s.commandFrame frx) := fun _ _ =>
    (noFault_wakeEvents _ _).append (noFault_bracketEvents _ _)
  cases h with
  | tooLarge _ hs => exact .inr ⟨by rw [hs]; decide, noFault_nil⟩
  | wakeFault es _ _ ht hf => exact .inl ⟨ht.status, hf.faultLast⟩
  | sendFault wrx es _ ht hf => exact .inl ⟨ht.status, (noFault_wakeEvents s wrx).faultLast hf.faultLast⟩
  | ackTimeout wrx frx k es _ ht _ he =>
    exact .inr ⟨ht.status_ne (by decide), List.append_assoc _ _ _ ▸ (hsent wrx frx).append he.noFault⟩
  | ackFault wrx frx k es fs _ ht _ he hf =>
    exact .inl ⟨ht.status, List.append_assoc _ _ _ ▸ (hsent wrx frx).faultLast (he.noFault.faultLast hf.faultLast)⟩
  | nak wrx frx k es _ ht _ he =>
    exact .inr ⟨ht.status_ne (by decide), List.append_assoc _ _ _ ▸ (hsent wrx frx).append he.noFault_read⟩
  | respTimeout wrx frx k m es _ ht _ _ he =>
    exact .inr ⟨ht.status_ne (by decide), List.append_assoc _ _ _ ▸
      (hsent wrx frx).append (he.noFault_read.append (waitEvents_noFault _ m))⟩
  | respFault wrx frx k m es fs _ ht _ _ he hf =>
    exact .inl ⟨ht.status, List.append_assoc _ _ _ ▸ (hsent wrx frx).faultLast
      (he.noFault_read.faultLast (NoFault.faultLast (waitEvents_noFault _ m) (respFault_faultLast hf)))⟩
  | read wrx frx b k m es _ _ _ he _ _ _ ht =>
    refine .inr ⟨?_, List.append_assoc _ _ _ ▸ (hsent wrx frx).append (he.noFault_read.append
      (NoFault.append (waitEvents_noFault _ m) ((noFault_bracketEvents _ b).sample true)))⟩
    rcases ht with ⟨hs, -⟩ | ⟨e, hf, he⟩
    · rw [hs]
      decide
    · exact hf.status_ne (isBlockError_of_response he).2.2

/-- Settles O32: by where a request's events hold a fault. -/
theorem busFaultIsImmediate : Obligations.BusFaultIsImmediate := by
  intro s t h
  obtain ⟨es, e, ho⟩ := outcome_of_exec_request h
  exact ⟨es, e.1, ho.faults⟩

end Sys2Proof.Machine
end

section
/-! PROOFS. The bound on a request (R229, R335): primitives and sleeps of the pieces of its events, added up along
`RequestOutcome`, and the time of a polling phase against its budget. -/

namespace Sys2Proof.Machine

/-! ### Counting primitives and sleeps -/

/-- At most n primitives, at most k of them sleeps, and every sleep is of ms milliseconds. -/
structure Within (ms n k : Nat) (es : List Event) : Prop where
  total : es.length ≤ n
  sleeps : es.countP isSleepCall ≤ k
  time : sleptMs es = ms * es.countP isSleepCall

theorem Within.mono {ms n n' k k' : Nat} {es : List Event} (h : Within ms n k es) (hn : n ≤ n') (hk : k ≤ k') :
    Within ms n' k' es :=
  ⟨h.total.trans hn, h.sleeps.trans hk, h.time⟩

theorem Within.append {ms n n' k k' : Nat} {es fs : List Event} (h : Within ms n k es) (g : Within ms n' k' fs) :
    Within ms (n + n') (k + k') (es ++ fs) := by
  obtain ⟨htotal, hsleeps, htime⟩ := h
  obtain ⟨gtotal, gsleeps, gtime⟩ := g
  refine ⟨?_, ?_, ?_⟩
  · rw [List.length_append]
    exact Nat.add_le_add htotal gtotal
  · rw [List.countP_append]
    exact Nat.add_le_add hsleeps gsleeps
  · rw [sleptMs_append, List.countP_append, htime, gtime, Nat.mul_add]

theorem within_nil (ms : Nat) : Within ms 0 0 [] := ⟨le_rfl, le_rfl, rfl⟩

theorem Within.sample {ms n k : Nat} {es : List Event} (level : Option Bool) (h : Within ms n k es) :
    Within ms (n + 1) k (.ready level :: es) :=
  ⟨Nat.succ_le_succ h.total, h.sleeps, h.time⟩

theorem within_sleep (ms : Nat) (returned : Bool) : Within ms 1 1 [.sleep ms returned] :=
  ⟨le_rfl, le_rfl, (Nat.mul_one ms).symm⟩

theorem within_bracketEvents (ms : Nat) (tx rx : List Byte) : Within ms 3 0 (bracketEvents tx rx) :=
  ⟨le_rfl, le_rfl, rfl⟩

theorem within_wakeEvents (ms : Nat) (s : State) (rx : List Byte) : Within ms 3 0 (wakeEvents s rx) := by
  unfold wakeEvents
  split
  · exact (within_nil ms).mono (Nat.zero_le _) le_rfl
  · exact within_bracketEvents _ _ _

theorem within_waitEvents (ms n : Nat) : Within ms (2 * n) n (waitEvents ms n) :=
  ⟨(waitEvents_length ms n).le, (countP_isSleepCall_waitEvents ms n).le, by simp [Nat.mul_comm]⟩

section
variable {ms k : Nat} {tx : List Byte} {es : List Event}

theorem BracketFault.within (ms : Nat) (h : BracketFault tx es) : Within ms 3 0 es := by
  cases h with
  | raise => exact ⟨Nat.le_add_left 1 2, le_rfl, rfl⟩
  | exchange => exact ⟨Nat.le_succ 2, le_rfl, rfl⟩
  | lower rx => exact ⟨le_rfl, le_rfl, rfl⟩

theorem PollFault.within (h : PollFault ms es) : Within ms 2 1 es := by
  cases h with
  | ready => exact ((within_nil ms).sample none).mono (by decide) (by decide)
  | sleep => exact (within_sleep ms false).sample (some false)

/-- A failed attempt of the ACK wait is at most a sample, a bracket and a sleep (R222). -/
theorem Attempts.within (h : Attempts ms tx k es) : Within ms (5 * k) k es := by
  induction h with
  | zero => exact within_nil ms
  | wait k es _ ih => exact ((within_waitEvents ms 1).append ih).mono (by omega) (by omega)
  | neither rx k es _ _ _ ih =>
    exact (((within_bracketEvents ms tx rx).append ((within_sleep ms true).append ih)).sample _).mono
      (by omega) (by omega)

theorem AttemptFault.within (h : AttemptFault ms tx es) : Within ms 5 1 es := by
  cases h with
  | poll _ h => exact h.within.mono (by decide) le_rfl
  | bracket _ h => exact ((h.within ms).sample _).mono (by decide) (by decide)
  | neither rx => exact ((within_bracketEvents ms tx rx).append (within_sleep ms false)).sample _

/-- The events up to the ACK (R222). -/
theorem Attempts.within_read (rx : List Byte) (h : Attempts ms tx k es) :
    Within ms (5 * k + 4) k (es ++ .ready (some true) :: bracketEvents tx rx) :=
  h.within.append ((within_bracketEvents ms tx rx).sample _)

/-- The events of a response wait that stopped at a fault, after its failed attempts. -/
theorem respFault_within
    (h : PollFault ms es ∨ ∃ gs, es = .ready (some true) :: gs ∧ BracketFault tx gs) : Within ms 4 1 es := by
  rcases h with h | ⟨gs, rfl, h⟩
  · exact h.within.mono (by decide) le_rfl
  · exact ((h.within ms).sample _).mono le_rfl (by decide)

end

/-- The bound on the primitives and the sleeps of a request (R229). -/
theorem RequestOutcome.within {s t : State} {es : List Event} (h : RequestOutcome s t es) :
    Within s.cfg.intervalMs.toNat (8 + 5 * s.ackBound + 2 * s.respBound) (s.ackBound + s.respBound) es := by
  have hsent : ∀ {n k : Nat} {fs : List Event} (wrx frx : List Byte), Within s.cfg.intervalMs.toNat n k fs →
      n ≤ 2 + 5 * s.ackBound + 2 * s.respBound → k ≤ s.ackBound + s.respBound →
      Within s.cfg.intervalMs.toNat (8 + 5 * s.ackBound + 2 * s.respBound) (s.ackBound + s.respBound)
        (wakeEvents s wrx ++ (bracketEvents s.commandFrame frx ++ fs)) := fun wrx frx hfs hn hk =>
    ((within_wakeEvents _ s wrx).append ((within_bracketEvents _ s.commandFrame frx).append hfs)).mono
      (by omega) (by omega)
  cases h with
  | tooLarge => exact (within_nil _).mono (Nat.zero_le _) (Nat.zero_le _)
  | wakeFault es _ _ _ hf => exact (hf.within _).mono (by omega) (Nat.zero_le _)
  | sendFault wrx es _ _ hf => exact ((within_wakeEvents _ s wrx).append (hf.within _)).mono (by omega) (by omega)
  | ackTimeout wrx frx k es _ _ hk he => exact hsent wrx frx he.within (by omega) (by omega)
  | ackFault wrx frx k es fs _ _ hk he hf => exact hsent wrx frx (he.within.append hf.within) (by omega) (by omega)
  | nak wrx frx k es _ _ hk he => exact hsent wrx frx (he.within_read _) (by omega) (by omega)
  | respTimeout wrx frx k m es _ _ hk hm he =>
    exact hsent wrx frx ((he.within_read _).append (within_waitEvents _ m)) (by omega) (by omega)
  | respFault wrx frx k m es fs _ _ hk hm he hf =>
    exact hsent wrx frx ((he.within_read _).append ((within_waitEvents _ m).append (respFault_within hf)))
      (by omega) (by omega)
  | read wrx frx b k m es _ hk hm he =>
    exact hsent wrx frx ((he.within_read _).append
      ((within_waitEvents _ m).append ((within_bracketEvents _ s.respProbe b).sample _))) (by omega) (by omega)

/-! ### Time -/

/-- The attempts of a polling phase take less than its budget and one interval (R335). -/
theorem limit_mul_interval_lt (c : Config) (t : Word16) :
    (limit c t).toNat * c.intervalMs.toNat < t.toNat + c.intervalMs.toNat := by
  have hpos := c.interval_pos
  have hquot := Nat.div_mul_le_self (t.toNat + c.intervalMs.toNat - 1) c.intervalMs.toNat
  have hmin : (limit c t).toNat * c.intervalMs.toNat ≤
      (t.toNat + c.intervalMs.toNat - 1) / c.intervalMs.toNat * c.intervalMs.toNat := by
    rw [limit_toNat]
    exact Nat.mul_le_mul_right _ (Nat.min_le_right _ _)
  omega

/-- A single timeout is the sum of its two budgets (R191). -/
theorem splitBudgets_single_sum (t1 t2 : Word16) :
    (splitBudgets .single t1 t2).1.toNat + (splitBudgets .single t1 t2).2.toNat = t1.toNat := by
  rw [splitBudgets, half_toNat, sub_half_toNat]
  exact Nat.add_sub_of_le (Nat.div_le_self _ _)

/-- Settles O29: the bound on the events, and each phase's time against its budget. -/
theorem requestIsBounded : Obligations.RequestIsBounded := by
  intro s ta tr hp hsplit
  obtain ⟨-, -, es, e, ho⟩ := runRequest_cases s
  obtain ⟨htotal, hsleeps, htime⟩ := ho.within
  have hta : s.ackBound = (limit s.cfg ta).toNat := by rw [State.ackBound, ← hsplit]
  have htr : s.respBound = (limit s.cfg tr).toNat := by rw [State.respBound, ← hsplit]
  rw [hta, htr] at htotal hsleeps
  have helapsed : (runRequest s).link.elapsedMs =
      s.link.elapsedMs + s.cfg.intervalMs.toNat * es.countP isSleepCall := by rw [e.2.2, htime]
  have hphases : s.cfg.intervalMs.toNat * es.countP isSleepCall ≤
      ((limit s.cfg ta).toNat + (limit s.cfg tr).toNat) * s.cfg.intervalMs.toNat := by
    rw [Nat.mul_comm]
    exact Nat.mul_le_mul_right _ hsleeps
  have hack := limit_mul_interval_lt s.cfg ta
  have hresp := limit_mul_interval_lt s.cfg tr
  have hbudget : (runRequest s).link.elapsedMs <
      s.link.elapsedMs + ta.toNat + tr.toNat + 2 * s.cfg.intervalMs.toNat := by
    rw [Nat.add_mul] at hphases
    omega
  refine ⟨_, es, exec_request hp, e.1, htotal, helapsed, ?_, hbudget, fun hm => ?_⟩
  · rw [helapsed]
    exact Nat.add_le_add_left hphases _
  · have hsum : ta.toNat + tr.toNat = s.t1.toNat := by
      rw [hm] at hsplit
      rw [← splitBudgets_single_sum s.t1 s.t2, ← hsplit]
    omega

end Sys2Proof.Machine
end

section
/-! PROOFS. What a request sends (R217, R231): the bytes of its Exchanges, in order. -/

namespace Sys2Proof.Machine

/-! ### The bytes sent by the pieces of a request's events -/

theorem sentBytes_wakeEvents (s : State) (rx : List Byte) :
    sentBytes (wakeEvents s rx) = if s.awake then [] else [s.cfg.wakeSeq] := by
  unfold wakeEvents
  split <;> rfl

section
variable {ms k : Nat} {tx : List Byte} {es : List Event}

theorem BracketFault.sent (h : BracketFault tx es) : sentBytes es <+: [tx] := by
  cases h with
  | raise => exact List.nil_prefix
  | exchange => exact List.prefix_rfl
  | lower rx => exact List.prefix_rfl

theorem PollFault.sent (h : PollFault ms es) : sentBytes es = [] := by cases h <;> rfl

theorem AttemptFault.sent (h : AttemptFault ms tx es) : sentBytes es <+: [tx] := by
  cases h with
  | poll _ h => rw [h.sent]; exact List.nil_prefix
  | bracket _ h => exact h.sent
  | neither rx => exact List.prefix_rfl

/-- Failed attempts send ACK reads alone (R222). -/
theorem Attempts.sent (h : Attempts ms tx k es) : ∃ n, sentBytes es = List.replicate n tx := by
  induction h with
  | zero => exact ⟨0, rfl⟩
  | wait k es _ ih => exact ih
  | neither rx k es _ _ _ ih =>
    obtain ⟨n, hn⟩ := ih
    exact ⟨n + 1, congrArg (tx :: ·) hn⟩

/-- The ACK reads up to the one that ends the wait. -/
theorem Attempts.sent_read (rx : List Byte) (h : Attempts ms tx k es) :
    ∃ n, sentBytes (es ++ .ready (some true) :: bracketEvents tx rx) = List.replicate n tx := by
  obtain ⟨n, hn⟩ := h.sent
  refine ⟨n + 1, ?_⟩
  rw [sentBytes_append, hn, List.replicate_succ']
  rfl

/-- The events of a response wait that stopped at a fault, after its failed attempts. -/
theorem respFault_sent
    (h : PollFault ms es ∨ ∃ gs, es = .ready (some true) :: gs ∧ BracketFault tx gs) : sentBytes es <+: [tx] := by
  rcases h with h | ⟨gs, rfl, h⟩
  · rw [h.sent]
    exact List.nil_prefix
  · exact h.sent

end

/-! ### The exchanges of a request -/

/-- What a request sends after its command frame: ACK reads and at most one response read (R231). -/
def Reads (s : State) (sent : List (List Byte)) : Prop :=
  ∃ n j, j ≤ 1 ∧ sent = List.replicate n s.ackProbe ++ List.replicate j s.respProbe

/-- A beginning of ACK reads and one response read. -/
def ReadsBegun (s : State) (sent : List (List Byte)) : Prop :=
  ∃ n, sent <+: List.replicate n s.ackProbe ++ [s.respProbe]

theorem Reads.begun {s : State} {sent : List (List Byte)} (h : Reads s sent) : ReadsBegun s sent := by
  obtain ⟨n, j, hj, rfl⟩ := h
  refine ⟨n, (List.prefix_append_right_inj _).2 ?_⟩
  rcases Nat.le_one_iff_eq_zero_or_eq_one.1 hj with rfl | rfl
  · exact List.nil_prefix
  · exact List.prefix_rfl

section
variable {s : State} {k : Nat} {es : List Event}

/-- ACK reads alone: the ACK wait timed out. -/
theorem Attempts.reads (h : Attempts s.cfg.intervalMs.toNat s.ackProbe k es) : Reads s (sentBytes es) := by
  obtain ⟨n, hn⟩ := h.sent
  exact ⟨n, 0, Nat.zero_le _, by rw [hn]; exact (List.append_nil _).symm⟩

/-- ACK reads up to the one that ended the wait. -/
theorem Attempts.reads_read (h : Attempts s.cfg.intervalMs.toNat s.ackProbe k es) (rx : List Byte) :
    Reads s (sentBytes (es ++ .ready (some true) :: bracketEvents s.ackProbe rx)) := by
  obtain ⟨n, hn⟩ := h.sent_read rx
  exact ⟨n, 0, Nat.zero_le _, by rw [hn]; exact (List.append_nil _).symm⟩

/-- ACK reads up to the one that ended the wait, and response reads after it. -/
theorem Attempts.reads_append {fs : List Event} {j : Nat} (h : Attempts s.cfg.intervalMs.toNat s.ackProbe k es)
    (rx : List Byte) (hj : j ≤ 1) (hfs : sentBytes fs = List.replicate j s.respProbe) :
    Reads s (sentBytes ((es ++ .ready (some true) :: bracketEvents s.ackProbe rx) ++ fs)) := by
  obtain ⟨n, hn⟩ := h.sent_read rx
  exact ⟨n, j, hj, by rw [sentBytes_append, hn, hfs]⟩

/-- ACK reads, the last of them perhaps cut short by a fault. -/
theorem Attempts.readsBegun_ack {fs : List Event} (h : Attempts s.cfg.intervalMs.toNat s.ackProbe k es)
    (hfs : sentBytes fs <+: [s.ackProbe]) : ReadsBegun s (sentBytes (es ++ fs)) := by
  obtain ⟨n, hn⟩ := h.sent
  refine ⟨n + 1, ?_⟩
  rw [sentBytes_append, hn, List.replicate_succ', List.append_assoc]
  exact (List.prefix_append_right_inj _).2 (hfs.trans (List.prefix_append _ _))

/-- ACK reads up to the one that ended the wait, and a response read perhaps cut short by a fault. -/
theorem Attempts.readsBegun_resp {fs : List Event} (h : Attempts s.cfg.intervalMs.toNat s.ackProbe k es)
    (rx : List Byte) (hfs : sentBytes fs <+: [s.respProbe]) :
    ReadsBegun s (sentBytes ((es ++ .ready (some true) :: bracketEvents s.ackProbe rx) ++ fs)) := by
  obtain ⟨n, hn⟩ := h.sent_read rx
  refine ⟨n, ?_⟩
  rw [sentBytes_append, hn]
  exact (List.prefix_append_right_inj _).2 hfs

end

theorem sentBytes_response (ms m : Nat) (tx rx : List Byte) :
    sentBytes (waitEvents ms m ++ .ready (some true) :: bracketEvents tx rx) = List.replicate 1 tx := by
  rw [sentBytes_append, sentBytes_waitEvents]
  rfl

/-- Without a fault a request has sent the wake-up and the frame in full, and then nothing but reads. -/
theorem RequestOutcome.sent_inFull {s t : State} {es : List Event} (h : RequestOutcome s t es)
    (hargs : s.args.length ≤ 253) (hne : t.status ≠ .error .busFault) :
    ∃ wrx frx fs, es = wakeEvents s wrx ++ (bracketEvents s.commandFrame frx ++ fs) ∧ Reads s (sentBytes fs) := by
  cases h with
  | tooLarge h => omega
  | wakeFault _ _ _ ht | sendFault _ _ _ ht | ackFault _ _ _ _ _ _ ht | respFault _ _ _ _ _ _ _ ht =>
    exact absurd ht.status hne
  | ackTimeout wrx frx k es _ _ _ he => exact ⟨wrx, frx, _, rfl, he.reads⟩
  | nak wrx frx k es _ _ _ he => exact ⟨wrx, frx, _, rfl, he.reads_read _⟩
  | respTimeout wrx frx k m es _ _ _ _ he =>
    exact ⟨wrx, frx, _, rfl, he.reads_append _ (Nat.zero_le 1) (sentBytes_waitEvents _ m)⟩
  | read wrx frx b k m es _ _ _ he =>
    exact ⟨wrx, frx, _, rfl, he.reads_append _ le_rfl (sentBytes_response _ m s.respProbe b)⟩

/-- Whatever its outcome, a request has sent a beginning of this: the wake-up, the frame, ACK reads, one response read. -/
theorem RequestOutcome.sent {s t : State} {es : List Event} (h : RequestOutcome s t es) :
    ∃ n, sentBytes es <+: (if s.awake then [] else [s.cfg.wakeSeq]) ++ s.commandFrame ::
      (List.replicate n s.ackProbe ++ [s.respProbe]) := by
  have hsent : ∀ wrx frx fs, ReadsBegun s (sentBytes fs) →
      ∃ n, sentBytes (wakeEvents s wrx ++ (bracketEvents s.commandFrame frx ++ fs)) <+:
        (if s.awake then [] else [s.cfg.wakeSeq]) ++ s.commandFrame ::
          (List.replicate n s.ackProbe ++ [s.respProbe]) := by
    rintro wrx frx fs ⟨n, hn⟩
    refine ⟨n, ?_⟩
    rw [sentBytes_append, sentBytes_append, sentBytes_wakeEvents, sentBytes_bracketEvents]
    exact (List.prefix_append_right_inj _).2 ((List.prefix_append_right_inj [_]).2 hn)
  cases h with
  | tooLarge => exact ⟨0, List.nil_prefix⟩
  | wakeFault es _ ha _ hf =>
    refine ⟨0, ?_⟩
    rw [ha]
    exact hf.sent.trans (List.prefix_append [s.cfg.wakeSeq] _)
  | sendFault wrx es _ _ hf =>
    refine ⟨0, ?_⟩
    rw [sentBytes_append, sentBytes_wakeEvents]
    exact (List.prefix_append_right_inj _).2 (hf.sent.trans (List.prefix_append [s.commandFrame] _))
  | ackTimeout wrx frx k es _ _ _ he => exact hsent wrx frx _ he.reads.begun
  | ackFault wrx frx k es fs _ _ _ he hf => exact hsent wrx frx _ (he.readsBegun_ack hf.sent)
  | nak wrx frx k es _ _ _ he => exact hsent wrx frx _ (he.reads_read _).begun
  | respTimeout wrx frx k m es _ _ _ _ he =>
    exact hsent wrx frx _ (he.reads_append _ (Nat.zero_le 1) (sentBytes_waitEvents _ m)).begun
  | respFault wrx frx k m es fs _ _ _ _ he hf =>
    refine hsent wrx frx _ (he.readsBegun_resp _ ?_)
    rw [sentBytes_append, sentBytes_waitEvents]
    exact respFault_sent hf
  | read wrx frx b k m es _ _ _ he =>
    exact hsent wrx frx _ (he.reads_append _ le_rfl (sentBytes_response _ m s.respProbe b)).begun

/-! ### From the bytes sent to the events -/

theorem mem_sentBytes_of_exchange {es : List Event} {tx : List Byte} {rx : Option (List Byte)}
    (h : Event.exchange tx rx ∈ es) : tx ∈ sentBytes es := by
  obtain ⟨es, fs, rfl⟩ := List.append_of_mem h
  rw [sentBytes_append]
  exact List.mem_append_right _ List.mem_cons_self

theorem countP_isExchangeOf (n : Nat) (es : List Event) :
    es.countP (isExchangeOf n) = (sentBytes es).countP fun tx => tx.length == n := by
  induction es with
  | nil => rfl
  | cons e es ih => cases e <;> simp [isExchangeOf, sentBytes, List.countP_cons, ih]

/-- As RX_COUNT is not 6, only a response read exchanges RX_COUNT bytes (R8). -/
theorem Reads.countP_le {s : State} {es : List Event} (h : Reads s (sentBytes es)) :
    es.countP (isExchangeOf s.cfg.rxCount.toNat) ≤ 1 := by
  obtain ⟨n, j, hj, hes⟩ := h
  have hne : ¬ 6 = s.cfg.rxCount.toNat := by
    have := s.cfg.rxCount_legal.1
    omega
  rw [countP_isExchangeOf, hes]
  simpa [List.countP_replicate, hne] using hj

/-- Settles O31: by the bytes sent, and where no primitive faulted by the pieces of the trace. -/
theorem frameWrittenOnceNoRetry : Obligations.FrameWrittenOnceNoRetry := by
  intro s t h
  obtain ⟨es, e, ho⟩ := outcome_of_exec_request h
  refine ⟨?_, fun hargs hne => ?_⟩
  · obtain ⟨n, hn⟩ := ho.sent
    exact ⟨es, n, e.1, hn⟩
  · obtain ⟨wrx, frx, fs, rfl, hreads⟩ := ho.sent_inFull hargs hne
    refine ⟨wrx, frx, fs, ?_, fun tx rx hx => ?_, hreads.countP_le⟩
    · rw [e.1, ← List.append_assoc, ← List.append_assoc]
      rfl
    · obtain ⟨n, j, -, hsent⟩ := hreads
      have hmem := mem_sentBytes_of_exchange hx
      rw [hsent, List.mem_append, List.mem_replicate, List.mem_replicate] at hmem
      exact hmem.imp And.right And.right

end Sys2Proof.Machine
end

section
/-! PROOFS. The Command Layer (R260 to R268): every operation is one REQUEST, and they differ in how they read its
outcome. -/

namespace Sys2Proof.Machine

/-! ### One REQUEST for every operation (R260) -/

theorem Status.error_or_none_or_ok (st : Status) : (∃ e, st = .error e) ∨ st = .none ∨ st = .ok := by
  cases st <;> simp

theorem State.result_of_error {s : State} {e : Err} (h : s.status = .error e) : s.result = .err e := by
  rw [State.result, h]

theorem State.result_of_no_error {s : State} (h : s.status = .none ∨ s.status = .ok) : s.result = .ok s.rdata := by
  rcases h with h | h <;> rw [State.result, h]

theorem requestOperands_phase (op : Byte) (args : List Byte) (tm : Timeout) (s : State) :
    (requestOperands op args tm s).phase = s.phase := by
  cases tm <;> rfl

/-- In Idle a call of the engine ends as its REQUEST does, except for what it returns: `ret` of the state the REQUEST
leaves, where `ret` says `onErr` of an error and `parse` of the data otherwise (R260). -/
theorem callEngine_of_idle {op : Byte} {args : List Byte} {tm : Timeout} {parse : List Byte → Ret} {onErr : Err → Ret}
    {ret : State → Ret} {s : State} (hp : s.phase = .idle)
    (herr : ∀ t e, t.status = .error e → ret t = onErr e)
    (hdata : ∀ t, t.status = .none ∨ t.status = .ok → ret t = parse t.rdata) :
    ∃ t, exec .request (requestOperands op args tm s) = .next t ∧
      callEngine op args tm parse onErr s = .next { t with ret := ret t } := by
  refine ⟨runRequest (requestOperands op args tm s), exec_request ((requestOperands_phase ..).trans hp), ?_⟩
  rw [callEngine, if_neg (by simp [State.busy, hp]), writeRequest_eq]
  generalize runRequest (requestOperands op args tm s) = t
  rcases t.status.error_or_none_or_ok with ⟨e, h⟩ | h
  · rw [State.result_of_error h, herr t e h]
    rfl
  · rw [State.result_of_no_error h, hdata t h]
    rfl

/-! ### The parses (R261) -/

theorem parseFirmware_eq (d : List Byte) :
    parseFirmware d =
      if d.length < 4 then .error .truncated
      else .firmware (d.getD 0 0) (d.getD 1 0) (d.getD 2 0) (d.getD 3 0) := by
  match d with
  | [] | [_] | [_, _] | [_, _, _] => rfl
  | _ :: _ :: _ :: _ :: _ => simp [parseFirmware]

theorem parseTarget_nil (notFound : Byte) : parseTarget notFound [] = .error .truncated := rfl

/-- The offsets of R266, counted from the byte after target-count. -/
theorem parseTarget_cons (notFound c : Byte) (rest : List Byte) :
    parseTarget notFound (c :: rest) =
      if c = notFound then .targetNotFound
      else if rest.length < 5 then .error .truncated
      else if rest.length < 5 + (rest.getD 4 0).toNat then .error .truncated
      else .uid ((rest.drop 5).take (rest.getD 4 0).toNat) := by
  have huid (n : Nat) : slice (c :: rest) 6 (6 + n) = (rest.drop 5).take n := by
    rw [slice, List.drop_take, Nat.add_sub_cancel_left, List.drop_succ_cons]
  have hlen (n : Nat) : (c :: rest).length < 6 + n ↔ rest.length < 5 + n := by
    rw [List.length_cons]
    omega
  rw [parseTarget, if_neg (by simp), List.getD_cons_zero, List.getD_cons_succ, huid]
  simp only [hlen, hlen 0]

/-! ### The four operations -/

/-- Settles O44: one REQUEST, whose data is parsed by its length and whose error becomes the cause. -/
theorem getFirmwareVersionParses : Obligations.GetFirmwareVersionParses := by
  intro tm s hp
  refine callEngine_of_idle hp (fun t e h => by rw [h]) fun t h => ?_
  rw [parseFirmware_eq]
  rcases h with h | h <;> rw [h]

theorem samByte_eq {p : CommandParams} {mode : SamMode} {m : Byte}
    (h : (mode = .normal ∧ m = p.samNormal) ∨ (mode = .virtualCard ∧ m = p.samVirtual) ∨
      (mode = .wiredCard ∧ m = p.samWired) ∨ (mode = .dualCard ∧ m = p.samDual)) :
    samByte p mode = m := by
  rcases h with ⟨rfl, rfl⟩ | ⟨rfl, rfl⟩ | ⟨rfl, rfl⟩ | ⟨rfl, rfl⟩ <;> rfl

/-- Settles O45: one REQUEST with the mode's byte, whose data the parse does not look at. -/
theorem samConfigurationIgnoresData : Obligations.SamConfigurationIgnoresData := by
  intro mode b m irq tm s hp hm
  obtain rfl := samByte_eq hm
  refine callEngine_of_idle hp (fun t e h => by rw [h]) fun t h => ?_
  rcases h with h | h <;> rw [h]

/-- Settles O46: one REQUEST, whose data is parsed along its first byte; an error is returned before any parse, so it is
never TargetNotFound. -/
theorem readPassiveTargetParses : Obligations.ReadPassiveTargetParses := by
  intro profile tm s hp
  refine callEngine_of_idle hp (fun t e h => by rw [h]) fun t h => ?_
  cases t.rdata with
  | nil => rcases h with h | h <;> rw [h, parseTarget_nil]
  | cons c rest => rcases h with h | h <;> rw [h, parseTarget_cons]

/-- Settles O47: one REQUEST, whose data and error are returned as they are. -/
theorem inDataExchangeReturnsData : Obligations.InDataExchangeReturnsData := by
  intro args tm s hp
  refine callEngine_of_idle hp (fun t e h => by rw [h]) fun t h => ?_
  rcases h with h | h <;> rw [h]

end Sys2Proof.Machine
end

section
/-! PROOFS. REQUEST where the ready signal stays false once the ACK has been read (R223, R288, R293). -/

namespace Sys2Proof.Machine

/-- The response wait where the signal is false in every attempt left (R194 (b), R223): no bracket is opened. -/
theorem responseWait_timedOut {v : State} {q rest : List Answer} {n : Nat} (hs : v.link.script = q ++ rest)
    (hn : v.attemptsLeft = n) (hq : Quiet n q) : responseWait v = .err .responseTimeout (v.waited n) := by
  subst hn
  rw [responseWait_eq, poll_timedOut hs hq, bind_ok, responsePolled]

theorem attemptsLeft_inResponseWait (s : State) (l : Link) : (s.inResponseWait.setLink l).attemptsLeft = s.respBound := rfl

/-- Attempts counted from 0 up to a bound leave POLLCNT at that bound (R193, R223). -/
theorem pollcnt_waited_inResponseWait (s : State) (l : Link) :
    ((s.inResponseWait.setLink l).waited s.respBound).pollcnt = limit s.cfg (splitBudgets s.tmode s.t1 s.t2).2 := by
  change 0#16 + BitVec.ofNat 16 s.respBound = _
  rw [BitVec.zero_add, BitVec.ofNat_toNat, BitVec.setWidth_eq]

/-- Settles O27: an ACK opens the response wait, which uses up its attempts; ResponseTimeout then clears AWAKE. -/
theorem requestResponseTimeout : Obligations.RequestResponseTimeout := by
  intro s w f a1 q1 q2 rest r1 fb n m ta tr hp ha hsplit hs h1 h2 hf hq1 hn hr hh hm hq2
  obtain ⟨rfl, rfl⟩ : ta = (splitBudgets s.tmode s.t1 s.t2).1 ∧ tr = (splitBudgets s.tmode s.t1 s.t2).2 :=
    ⟨congrArg Prod.fst hsplit, congrArg Prod.snd hsplit⟩
  subst hm
  obtain ⟨wrx, frx, l, hrest, hsel, helapsed, -, htrace, hbody⟩ := requestBody_ackRead ha hs h1 h2 hf hq1 hn hr hh rfl
  have hwait : responseWait (s.inResponseWait.setLink l) =
      .err .responseTimeout ((s.inResponseWait.setLink l).waited s.respBound) :=
    responseWait_timedOut hrest (attemptsLeft_inResponseWait s l) hq2
  have hrun : exec .request s =
      .next (returnToIdle (failEntry .responseTimeout ((s.inResponseWait.setLink l).waited s.respBound))) := by
    rw [exec_request hp, runRequest, hbody, ackPhaseRead_ack (s := s.inAckWait.acked ackFrame n l) _ rfl,
      enterResponseWait_acked, hwait, settle_err]
  refine ⟨wrx, frx, _, hrun, rfl, rfl, rfl, rfl, pollcnt_waited_inResponseWait s l, rfl, rfl, hsel, ?_,
    congrArg (· ++ _) htrace⟩
  rw [Nat.add_mul, ← Nat.add_assoc, ← helapsed]
  rfl

end Sys2Proof.Machine
end

section
/-! PROOFS. REQUEST where the ready signal is never true (R193, R221, R293, R336). -/

namespace Sys2Proof.Machine

/-- The ACK wait where the signal is false in every attempt left (R194 (b), R221): no bracket is opened. -/
theorem ackPhase_timedOut {v : State} {q rest : List Answer} {n : Nat} (m : Nat) (hs : v.link.script = q ++ rest)
    (hn : v.attemptsLeft = n) (hq : Quiet n q) : ackPhase (m + 1) v = .err .ackTimeout (v.waited n) := by
  subst hn
  rw [ackPhase_succ, poll_timedOut hs hq, bind_ok, ackPhasePolled]

/-- S3 opens the ACK wait, with one poll more than attempts (R219). -/
theorem afterSend_sent (s : State) (l : Link) :
    afterSend (((s.encoded.setAwake true).setPhase .frameSent).setLink l) =
      ackPhase (s.ackBound + 1) (s.inAckWait.setLink l) := by
  rw [← enterAckWait_sent]
  rfl

theorem attemptsLeft_inAckWait (s : State) (l : Link) : (s.inAckWait.setLink l).attemptsLeft = s.ackBound := rfl

/-- All the attempts of a polling phase, counted from 0, leave POLLCNT at POLLLIM (R193, R221). -/
theorem pollcnt_waited_attemptsLeft {v : State} (h : v.pollcnt = 0#16) :
    (v.waited v.attemptsLeft).pollcnt = v.polllim := by
  change v.pollcnt + BitVec.ofNat 16 (v.polllim.toNat - v.pollcnt.toNat) = _
  rw [h, BitVec.zero_add, BitVec.toNat_zero, Nat.sub_zero, BitVec.ofNat_toNat, BitVec.setWidth_eq]

/-- Where MAX_ATTEMPTS does not cut them short, the attempts of a polling phase take at least its budget (R190, R336). -/
theorem le_limit_mul_interval {c : Config} {t : Word16}
    (h : (t.toNat + c.intervalMs.toNat - 1) / c.intervalMs.toNat ≤ c.maxAttempts.toNat) :
    t.toNat ≤ (limit c t).toNat * c.intervalMs.toNat := by
  rw [limit_toNat, Nat.min_eq_right h]
  have hround := Nat.lt_div_mul_add (a := t.toNat + c.intervalMs.toNat - 1) c.interval_pos
  omega

/-- Settles O26: the ACK wait uses up its attempts, and AckTimeout then clears AWAKE. -/
theorem requestAckTimeout : Obligations.RequestAckTimeout := by
  intro s w f q rest fb n ta tr hp ha hsplit hs h1 h2 hf hn hq
  obtain ⟨rfl, rfl⟩ : ta = (splitBudgets s.tmode s.t1 s.t2).1 ∧ tr = (splitBudgets s.tmode s.t1 s.t2).2 :=
    ⟨congrArg Prod.fst hsplit, congrArg Prod.snd hsplit⟩
  subst hn
  obtain ⟨wrx, frx, l, hrest, hsel, helapsed, -, htrace, hbody⟩ := requestBody_sent ha hs h1 h2 hf
  have hwait : ackPhase (s.ackBound + 1) (s.inAckWait.setLink l) =
      .err .ackTimeout ((s.inAckWait.setLink l).waited s.ackBound) :=
    ackPhase_timedOut _ hrest (attemptsLeft_inAckWait s l) hq
  have hrun : exec .request s =
      .next (returnToIdle (failEntry .ackTimeout ((s.inAckWait.setLink l).waited s.ackBound))) := by
    rw [exec_request hp, runRequest, hbody, afterSend_sent, hwait, settle_err]
  exact ⟨wrx, frx, _, hrun, rfl, rfl, rfl, rfl,
    pollcnt_waited_attemptsLeft (v := s.inAckWait.setLink l) rfl, rfl, rfl, rfl, hsel,
    congrArg (· + _) helapsed, congrArg (· ++ _) htrace,
    fun hle => ⟨le_limit_mul_interval hle, limit_mul_interval_lt _ _⟩⟩

end Sys2Proof.Machine
end
